-- ==== Sys2Proof/Word.lean ====
section
/-! DEFINITION. The word types of the block (R6, R60, R61). -/

namespace Sys2Proof

/-- One wire byte. -/
abbrev Byte := BitVec 8

/-- A 16-bit word: a command word, a payload, a status word, a raw code or an alert limit. -/
abbrev Word16 := BitVec 16

/-- A request: `OP = req[35:32]`, `A = req[31:0]` (R60). -/
abbrev Request := BitVec 36

/-- The operand bus `A` (R60). -/
abbrev OperandBus := BitVec 32

/-- The result bus `Y` (R61). -/
abbrev ResultBus := BitVec 40

end Sys2Proof
end

