-- ==== Sys2Proof/Syntax.lean ====
section
/-! DEFINITION. The syntax: the operand enumerations (R68, R69), the error codes' names (R62), the instructions (one
constructor per row of spec/opcode_table.json) and the two kinds of instruction word. -/

namespace Sys2Proof

/-- The command ids of CMD.ENC by name, in the order of R68 (30_encoding.md). -/
inductive CommandId where
  | softreset
  | brk
  | heaterEnable
  | heaterDisable
  | readStatus
  | clearStatus
  | readSerial
  | measureLow
  | measureMedium
  | measureHigh
  | fetchPeriodicResult
  | readAlertHighSet
  | readAlertHighClear
  | readAlertLowSet
  | readAlertLowClear
  | writeAlertHighSet
  | writeAlertHighClear
  | writeAlertLowSet
  | writeAlertLowClear
  deriving DecidableEq, Repr

/-- MeasurementsPerSecond, in the order of R69: 0.5, 1, 2, 4 and 10 per second. -/
inductive Mps where
  | mps0_5
  | mps1
  | mps2
  | mps4
  | mps10
  deriving DecidableEq, Repr

/-- Repeatability, in the order of R69. -/
inductive Repeatability where
  | low
  | medium
  | high
  deriving DecidableEq, Repr

/-- The error codes a response carries (R62). The codes 5 to 7 are "never produced" and have no name. -/
inductive ErrCode where
  /-- NONE: success. -/
  | noError
  /-- CRC_MISMATCH: the received CRC byte differs from the computed one (CRC.CHK, WORD.CHK). -/
  | crcMismatch
  /-- ILLEGAL_OP: OP is 0xE or 0xF (the decoder, R66). -/
  | illegalOp
  /-- BAD_OPERAND: a reserved bit is set or a field value is outside its enumeration (the decoder, R65, R67). -/
  | badOperand
  /-- RANGE: the Celsius value is not representable as a raw code (CVT.C2R). -/
  | range
  deriving DecidableEq, Repr

/-- The instructions. The first fourteen are the block's operations (R63, the `req36` rows), with the operand fields of R64;
the rest are the sensor command words of R100 and R101 (the `wire_cmd16` rows), which the host puts on the sensor's wire
(log 3). -/
inductive Instr where
  /-- CMD.ENC (R102). -/
  | cmdEnc (id : BitVec 5)
  /-- CMD.PER (R103). -/
  | cmdPer (m : BitVec 3) (r : BitVec 2)
  /-- FRAME.PAY (R104). -/
  | framePay (cmd p : Word16)
  /-- STAT.DEC (R106). -/
  | statDec (w : Word16)
  /-- CRC.INIT (R143). -/
  | crcInit
  /-- CRC.UPD (R144). -/
  | crcUpd (b : Byte)
  /-- CRC.RD (R145). -/
  | crcRd
  /-- CRC.CHK (R146). -/
  | crcChk (c : Byte)
  /-- CRC.WORD (R147). -/
  | crcWord (d : Word16)
  /-- WORD.CHK (R148). -/
  | wordChk (d0 d1 c : Byte)
  /-- CVT.R2C (R171). -/
  | cvtR2c (v : Word16)
  /-- CVT.C2R (R172). -/
  | cvtC2r (cb : BitVec 32)
  /-- ALRT.DEC (R108). -/
  | alrtDec (b0 b1 : Byte)
  /-- ALRT.ENC (R109). -/
  | alrtEnc (lim : Word16)
  /-- CMD_SOFTRESET, 0x30A2 (R100), the word that CMD.ENC id = 0 selects. -/
  | cmdSoftreset
  /-- CMD_BREAK, 0x3093 (R100), the word that CMD.ENC id = 1 selects. -/
  | cmdBreak
  /-- CMD_HEATER_ENABLE, 0x306D (R100), the word that CMD.ENC id = 2 selects. -/
  | cmdHeaterEnable
  /-- CMD_HEATER_DISABLE, 0x3066 (R100), the word that CMD.ENC id = 3 selects. -/
  | cmdHeaterDisable
  /-- CMD_READ_STATUS, 0xF32D (R100), the word that CMD.ENC id = 4 selects. -/
  | cmdReadStatus
  /-- CMD_CLEAR_STATUS, 0x3041 (R100), the word that CMD.ENC id = 5 selects. -/
  | cmdClearStatus
  /-- CMD_READ_SERIAL, 0x3780 (R100), the word that CMD.ENC id = 6 selects. -/
  | cmdReadSerial
  /-- CMD_MEASURE_LOW, 0x2416 (R100), the word that CMD.ENC id = 7 selects. -/
  | cmdMeasureLow
  /-- CMD_MEASURE_MEDIUM, 0x240B (R100), the word that CMD.ENC id = 8 selects. -/
  | cmdMeasureMedium
  /-- CMD_MEASURE_HIGH, 0x2400 (R100), the word that CMD.ENC id = 9 selects. -/
  | cmdMeasureHigh
  /-- CMD_FETCH_PERIODIC_RESULT, 0xE000 (R100), the word that CMD.ENC id = 10 selects. -/
  | cmdFetchPeriodicResult
  /-- CMD_READ_ALERT_HIGH_SET, 0xE11F (R100), the word that CMD.ENC id = 11 selects. -/
  | cmdReadAlertHighSet
  /-- CMD_READ_ALERT_HIGH_CLEAR, 0xE114 (R100), the word that CMD.ENC id = 12 selects. -/
  | cmdReadAlertHighClear
  /-- CMD_READ_ALERT_LOW_SET, 0xE102 (R100), the word that CMD.ENC id = 13 selects. -/
  | cmdReadAlertLowSet
  /-- CMD_READ_ALERT_LOW_CLEAR, 0xE109 (R100), the word that CMD.ENC id = 14 selects. -/
  | cmdReadAlertLowClear
  /-- CMD_WRITE_ALERT_HIGH_SET, 0x611D (R100), the word that CMD.ENC id = 15 selects. -/
  | cmdWriteAlertHighSet
  /-- CMD_WRITE_ALERT_HIGH_CLEAR, 0x6116 (R100), the word that CMD.ENC id = 16 selects. -/
  | cmdWriteAlertHighClear
  /-- CMD_WRITE_ALERT_LOW_SET, 0x6100 (R100), the word that CMD.ENC id = 17 selects. -/
  | cmdWriteAlertLowSet
  /-- CMD_WRITE_ALERT_LOW_CLEAR, 0x610B (R100), the word that CMD.ENC id = 18 selects. -/
  | cmdWriteAlertLowClear
  /-- CMD_PERIODIC_0_5MPS_LOW, 0x202F (R101), the word that CMD.PER m = 0, r = 0 selects. -/
  | cmdPeriodicHalfMpsLow
  /-- CMD_PERIODIC_0_5MPS_MEDIUM, 0x2024 (R101), the word that CMD.PER m = 0, r = 1 selects. -/
  | cmdPeriodicHalfMpsMedium
  /-- CMD_PERIODIC_0_5MPS_HIGH, 0x2032 (R101), the word that CMD.PER m = 0, r = 2 selects. -/
  | cmdPeriodicHalfMpsHigh
  /-- CMD_PERIODIC_1MPS_LOW, 0x212D (R101), the word that CMD.PER m = 1, r = 0 selects. -/
  | cmdPeriodic1MpsLow
  /-- CMD_PERIODIC_1MPS_MEDIUM, 0x2126 (R101), the word that CMD.PER m = 1, r = 1 selects. -/
  | cmdPeriodic1MpsMedium
  /-- CMD_PERIODIC_1MPS_HIGH, 0x2130 (R101), the word that CMD.PER m = 1, r = 2 selects. -/
  | cmdPeriodic1MpsHigh
  /-- CMD_PERIODIC_2MPS_LOW, 0x222B (R101), the word that CMD.PER m = 2, r = 0 selects. -/
  | cmdPeriodic2MpsLow
  /-- CMD_PERIODIC_2MPS_MEDIUM, 0x2220 (R101), the word that CMD.PER m = 2, r = 1 selects. -/
  | cmdPeriodic2MpsMedium
  /-- CMD_PERIODIC_2MPS_HIGH, 0x2236 (R101), the word that CMD.PER m = 2, r = 2 selects. -/
  | cmdPeriodic2MpsHigh
  /-- CMD_PERIODIC_4MPS_LOW, 0x2329 (R101), the word that CMD.PER m = 3, r = 0 selects. -/
  | cmdPeriodic4MpsLow
  /-- CMD_PERIODIC_4MPS_MEDIUM, 0x2322 (R101), the word that CMD.PER m = 3, r = 1 selects. -/
  | cmdPeriodic4MpsMedium
  /-- CMD_PERIODIC_4MPS_HIGH, 0x2334 (R101), the word that CMD.PER m = 3, r = 2 selects. -/
  | cmdPeriodic4MpsHigh
  /-- CMD_PERIODIC_10MPS_LOW, 0x272A (R101), the word that CMD.PER m = 4, r = 0 selects. -/
  | cmdPeriodic10MpsLow
  /-- CMD_PERIODIC_10MPS_MEDIUM, 0x2721 (R101), the word that CMD.PER m = 4, r = 1 selects. -/
  | cmdPeriodic10MpsMedium
  /-- CMD_PERIODIC_10MPS_HIGH, 0x2737 (R101), the word that CMD.PER m = 4, r = 2 selects. -/
  | cmdPeriodic10MpsHigh
  deriving DecidableEq, Repr

/-- An instruction word as the opcode table's two formats have it: a 36-bit request of the block (R60), or a 16-bit command
word of the sensor's wire (R42). -/
inductive InstrWord where
  | req36 (r : Request)
  | wire16 (w : Word16)
  deriving DecidableEq, Repr

end Sys2Proof
end

