-- ==== Sys2Proof/WellFormed.lean ====
section
/-! DEFINITION. Well-formed instructions: every field inside its enumeration (R67, R68, R69). -/

namespace Sys2Proof

/-- CMD.ENC's id is one of 0 to 18 (R67, R68). -/
def commandIdOk (id : BitVec 5) : Bool := decide (id.toNat ≤ 18)

/-- CMD.PER's m is one of 0 to 4 (R67, R69). -/
def mpsCodeOk (m : BitVec 3) : Bool := decide (m.toNat ≤ 4)

/-- CMD.PER's r is one of 0 to 2 (R67, R69). -/
def repeatabilityCodeOk (r : BitVec 2) : Bool := decide (r.toNat ≤ 2)

/-- The checks of every instruction: the other fields take every value of their width (R64), and a command word has no field. -/
def Instr.wf : Instr → Bool
  | .cmdEnc id => commandIdOk id
  | .cmdPer m r => mpsCodeOk m && repeatabilityCodeOk r
  | .framePay _ _ => true
  | .statDec _ => true
  | .crcInit => true
  | .crcUpd _ => true
  | .crcRd => true
  | .crcChk _ => true
  | .crcWord _ => true
  | .wordChk _ _ _ => true
  | .cvtR2c _ => true
  | .cvtC2r _ => true
  | .alrtDec _ _ => true
  | .alrtEnc _ => true
  | .cmdSoftreset => true
  | .cmdBreak => true
  | .cmdHeaterEnable => true
  | .cmdHeaterDisable => true
  | .cmdReadStatus => true
  | .cmdClearStatus => true
  | .cmdReadSerial => true
  | .cmdMeasureLow => true
  | .cmdMeasureMedium => true
  | .cmdMeasureHigh => true
  | .cmdFetchPeriodicResult => true
  | .cmdReadAlertHighSet => true
  | .cmdReadAlertHighClear => true
  | .cmdReadAlertLowSet => true
  | .cmdReadAlertLowClear => true
  | .cmdWriteAlertHighSet => true
  | .cmdWriteAlertHighClear => true
  | .cmdWriteAlertLowSet => true
  | .cmdWriteAlertLowClear => true
  | .cmdPeriodicHalfMpsLow => true
  | .cmdPeriodicHalfMpsMedium => true
  | .cmdPeriodicHalfMpsHigh => true
  | .cmdPeriodic1MpsLow => true
  | .cmdPeriodic1MpsMedium => true
  | .cmdPeriodic1MpsHigh => true
  | .cmdPeriodic2MpsLow => true
  | .cmdPeriodic2MpsMedium => true
  | .cmdPeriodic2MpsHigh => true
  | .cmdPeriodic4MpsLow => true
  | .cmdPeriodic4MpsMedium => true
  | .cmdPeriodic4MpsHigh => true
  | .cmdPeriodic10MpsLow => true
  | .cmdPeriodic10MpsMedium => true
  | .cmdPeriodic10MpsHigh => true

end Sys2Proof
end

