-- ==== Sys2Proof/Decode.lean ====
section
/-! DEFINITION. The decoder (R70 for requests; the table's rows for wire command words), then the encoder (R73), the words of
the opcode table's rows, and the host's numbering of them. -/

namespace Sys2Proof

/-- What decoding a word answers. -/
inductive Decoded where
  /-- The word is this instruction. -/
  | instr (i : Instr)
  /-- The request is refused with this code (R65, R66, R67); the block answers it so (R202). -/
  | raised (e : ErrCode)
  /-- A 16-bit word that is no row of the opcode table (log 5). -/
  | unlisted
  deriving DecidableEq, Repr

/-- `OP = req[35:32]` (R60). -/
def opField (r : Request) : BitVec 4 := r.extractLsb' 32 4

/-- `A = req[31:0]` (R60). -/
def operandBus (r : Request) : OperandBus := r.extractLsb' 0 32

/-- `RESERVED_MASK[OP]` as R70 lists it. The two reserved codes have no operand bit; R66 tests them first. -/
def reservedMask (op : BitVec 4) : OperandBus :=
  match op.toNat with
  | 0x0 => 0xFFFFFFE0#32
  | 0x1 => 0xFFFFFFC8#32
  | 0x2 => 0x00000000#32
  | 0x3 => 0xFFFF0000#32
  | 0x4 => 0xFFFFFFFF#32
  | 0x5 => 0xFFFFFF00#32
  | 0x6 => 0xFFFFFFFF#32
  | 0x7 => 0xFFFFFF00#32
  | 0x8 => 0xFFFF0000#32
  | 0x9 => 0xFF000000#32
  | 0xA => 0xFFFF0000#32
  | 0xB => 0x00000000#32
  | 0xC => 0xFFFF0000#32
  | 0xD => 0xFFFF0000#32
  | _ => 0xFFFFFFFF#32

/-- The operation OP selects (R63), its fields read as R64 lays them out; none for 0xE and 0xF (R66). -/
def operationOf (op : BitVec 4) (a : OperandBus) : Option Instr :=
  match op.toNat with
  | 0x0 => some (.cmdEnc (a.extractLsb' 0 5))
  | 0x1 => some (.cmdPer (a.extractLsb' 0 3) (a.extractLsb' 4 2))
  | 0x2 => some (.framePay (a.extractLsb' 16 16) (a.extractLsb' 0 16))
  | 0x3 => some (.statDec (a.extractLsb' 0 16))
  | 0x4 => some .crcInit
  | 0x5 => some (.crcUpd (a.extractLsb' 0 8))
  | 0x6 => some .crcRd
  | 0x7 => some (.crcChk (a.extractLsb' 0 8))
  | 0x8 => some (.crcWord (a.extractLsb' 0 16))
  | 0x9 => some (.wordChk (a.extractLsb' 16 8) (a.extractLsb' 8 8) (a.extractLsb' 0 8))
  | 0xA => some (.cvtR2c (a.extractLsb' 0 16))
  | 0xB => some (.cvtC2r a)
  | 0xC => some (.alrtDec (a.extractLsb' 8 8) (a.extractLsb' 0 8))
  | 0xD => some (.alrtEnc (a.extractLsb' 0 16))
  | _ => none

/-- The decoder of requests, its tests in the order of R70: reserved operation codes, reserved bits, field values. -/
def decodeRequest (r : Request) : Decoded :=
  match operationOf (opField r) (operandBus r) with
  | none => .raised .illegalOp
  | some i =>
    if operandBus r &&& reservedMask (opField r) ≠ 0#32 then .raised .badOperand
    else if i.wf then .instr i
    else .raised .badOperand

/-- The command words of R100, as the opcode table's `wire_cmd16` rows give them. -/
def commandRows : List (Word16 × Instr) :=
  [(0x30A2#16, .cmdSoftreset),
   (0x3093#16, .cmdBreak),
   (0x306D#16, .cmdHeaterEnable),
   (0x3066#16, .cmdHeaterDisable),
   (0xF32D#16, .cmdReadStatus),
   (0x3041#16, .cmdClearStatus),
   (0x3780#16, .cmdReadSerial),
   (0x2416#16, .cmdMeasureLow),
   (0x240B#16, .cmdMeasureMedium),
   (0x2400#16, .cmdMeasureHigh)]
  ++
  [(0xE000#16, .cmdFetchPeriodicResult),
   (0xE11F#16, .cmdReadAlertHighSet),
   (0xE114#16, .cmdReadAlertHighClear),
   (0xE102#16, .cmdReadAlertLowSet),
   (0xE109#16, .cmdReadAlertLowClear),
   (0x611D#16, .cmdWriteAlertHighSet),
   (0x6116#16, .cmdWriteAlertHighClear),
   (0x6100#16, .cmdWriteAlertLowSet),
   (0x610B#16, .cmdWriteAlertLowClear)]

/-- The continuous-sampling words of R101, as the opcode table's `wire_cmd16` rows give them. -/
def periodicRows : List (Word16 × Instr) :=
  [(0x202F#16, .cmdPeriodicHalfMpsLow),
   (0x2024#16, .cmdPeriodicHalfMpsMedium),
   (0x2032#16, .cmdPeriodicHalfMpsHigh),
   (0x212D#16, .cmdPeriodic1MpsLow),
   (0x2126#16, .cmdPeriodic1MpsMedium),
   (0x2130#16, .cmdPeriodic1MpsHigh),
   (0x222B#16, .cmdPeriodic2MpsLow),
   (0x2220#16, .cmdPeriodic2MpsMedium),
   (0x2236#16, .cmdPeriodic2MpsHigh)]
  ++
  [(0x2329#16, .cmdPeriodic4MpsLow),
   (0x2322#16, .cmdPeriodic4MpsMedium),
   (0x2334#16, .cmdPeriodic4MpsHigh),
   (0x272A#16, .cmdPeriodic10MpsLow),
   (0x2721#16, .cmdPeriodic10MpsMedium),
   (0x2737#16, .cmdPeriodic10MpsHigh)]

/-- The decoder of wire command words: INDEX.md, "recorded so that a decoder of wire commands can be written from the table". -/
def decodeWire (w : Word16) : Decoded :=
  match (commandRows ++ periodicRows).lookup w with
  | some i => .instr i
  | none => .unlisted

/-- The decoder, total on both kinds of word. -/
def decode : InstrWord → Decoded
  | .req36 r => decodeRequest r
  | .wire16 w => decodeWire w

/-! ## The encoder -/

/-- The word of an instruction: for an operation, the request word of R73; for a command word, the opcode table's. -/
def encode : Instr → InstrWord
  | .cmdEnc id => .req36 (0x0#4 ++ id.setWidth 32)
  | .cmdPer m r => .req36 (0x1#4 ++ (r ++ 0#1 ++ m).setWidth 32)
  | .framePay cmd p => .req36 (0x2#4 ++ (cmd ++ p))
  | .statDec w => .req36 (0x3#4 ++ w.setWidth 32)
  | .crcInit => .req36 (0x400000000#36)
  | .crcUpd b => .req36 (0x5#4 ++ b.setWidth 32)
  | .crcRd => .req36 (0x600000000#36)
  | .crcChk c => .req36 (0x7#4 ++ c.setWidth 32)
  | .crcWord d => .req36 (0x8#4 ++ d.setWidth 32)
  | .wordChk d0 d1 c => .req36 (0x9#4 ++ (0x00#8 ++ d0 ++ d1 ++ c))
  | .cvtR2c v => .req36 (0xA#4 ++ v.setWidth 32)
  | .cvtC2r cb => .req36 (0xB#4 ++ cb)
  | .alrtDec b0 b1 => .req36 (0xC#4 ++ (0x0000#16 ++ b0 ++ b1))
  | .alrtEnc lim => .req36 (0xD#4 ++ lim.setWidth 32)
  | .cmdSoftreset => .wire16 0x30A2#16
  | .cmdBreak => .wire16 0x3093#16
  | .cmdHeaterEnable => .wire16 0x306D#16
  | .cmdHeaterDisable => .wire16 0x3066#16
  | .cmdReadStatus => .wire16 0xF32D#16
  | .cmdClearStatus => .wire16 0x3041#16
  | .cmdReadSerial => .wire16 0x3780#16
  | .cmdMeasureLow => .wire16 0x2416#16
  | .cmdMeasureMedium => .wire16 0x240B#16
  | .cmdMeasureHigh => .wire16 0x2400#16
  | .cmdFetchPeriodicResult => .wire16 0xE000#16
  | .cmdReadAlertHighSet => .wire16 0xE11F#16
  | .cmdReadAlertHighClear => .wire16 0xE114#16
  | .cmdReadAlertLowSet => .wire16 0xE102#16
  | .cmdReadAlertLowClear => .wire16 0xE109#16
  | .cmdWriteAlertHighSet => .wire16 0x611D#16
  | .cmdWriteAlertHighClear => .wire16 0x6116#16
  | .cmdWriteAlertLowSet => .wire16 0x6100#16
  | .cmdWriteAlertLowClear => .wire16 0x610B#16
  | .cmdPeriodicHalfMpsLow => .wire16 0x202F#16
  | .cmdPeriodicHalfMpsMedium => .wire16 0x2024#16
  | .cmdPeriodicHalfMpsHigh => .wire16 0x2032#16
  | .cmdPeriodic1MpsLow => .wire16 0x212D#16
  | .cmdPeriodic1MpsMedium => .wire16 0x2126#16
  | .cmdPeriodic1MpsHigh => .wire16 0x2130#16
  | .cmdPeriodic2MpsLow => .wire16 0x222B#16
  | .cmdPeriodic2MpsMedium => .wire16 0x2220#16
  | .cmdPeriodic2MpsHigh => .wire16 0x2236#16
  | .cmdPeriodic4MpsLow => .wire16 0x2329#16
  | .cmdPeriodic4MpsMedium => .wire16 0x2322#16
  | .cmdPeriodic4MpsHigh => .wire16 0x2334#16
  | .cmdPeriodic10MpsLow => .wire16 0x272A#16
  | .cmdPeriodic10MpsMedium => .wire16 0x2721#16
  | .cmdPeriodic10MpsHigh => .wire16 0x2737#16

/-! ## The opcode table's rows -/

/-- The `match` and `mask` of an instruction's row of spec/opcode_table.json, as numbers. -/
def opcodeRow : Instr → Nat × Nat
  | .cmdEnc _ => (0x000000000, 0xFFFFFFFE0)
  | .cmdPer _ _ => (0x100000000, 0xFFFFFFFC8)
  | .framePay _ _ => (0x200000000, 0xF00000000)
  | .statDec _ => (0x300000000, 0xFFFFF0000)
  | .crcInit => (0x400000000, 0xFFFFFFFFF)
  | .crcUpd _ => (0x500000000, 0xFFFFFFF00)
  | .crcRd => (0x600000000, 0xFFFFFFFFF)
  | .crcChk _ => (0x700000000, 0xFFFFFFF00)
  | .crcWord _ => (0x800000000, 0xFFFFF0000)
  | .wordChk _ _ _ => (0x900000000, 0xFFF000000)
  | .cvtR2c _ => (0xA00000000, 0xFFFFF0000)
  | .cvtC2r _ => (0xB00000000, 0xF00000000)
  | .alrtDec _ _ => (0xC00000000, 0xFFFFF0000)
  | .alrtEnc _ => (0xD00000000, 0xFFFFF0000)
  | .cmdSoftreset => (0x30A2, 0xFFFF)
  | .cmdBreak => (0x3093, 0xFFFF)
  | .cmdHeaterEnable => (0x306D, 0xFFFF)
  | .cmdHeaterDisable => (0x3066, 0xFFFF)
  | .cmdReadStatus => (0xF32D, 0xFFFF)
  | .cmdClearStatus => (0x3041, 0xFFFF)
  | .cmdReadSerial => (0x3780, 0xFFFF)
  | .cmdMeasureLow => (0x2416, 0xFFFF)
  | .cmdMeasureMedium => (0x240B, 0xFFFF)
  | .cmdMeasureHigh => (0x2400, 0xFFFF)
  | .cmdFetchPeriodicResult => (0xE000, 0xFFFF)
  | .cmdReadAlertHighSet => (0xE11F, 0xFFFF)
  | .cmdReadAlertHighClear => (0xE114, 0xFFFF)
  | .cmdReadAlertLowSet => (0xE102, 0xFFFF)
  | .cmdReadAlertLowClear => (0xE109, 0xFFFF)
  | .cmdWriteAlertHighSet => (0x611D, 0xFFFF)
  | .cmdWriteAlertHighClear => (0x6116, 0xFFFF)
  | .cmdWriteAlertLowSet => (0x6100, 0xFFFF)
  | .cmdWriteAlertLowClear => (0x610B, 0xFFFF)
  | .cmdPeriodicHalfMpsLow => (0x202F, 0xFFFF)
  | .cmdPeriodicHalfMpsMedium => (0x2024, 0xFFFF)
  | .cmdPeriodicHalfMpsHigh => (0x2032, 0xFFFF)
  | .cmdPeriodic1MpsLow => (0x212D, 0xFFFF)
  | .cmdPeriodic1MpsMedium => (0x2126, 0xFFFF)
  | .cmdPeriodic1MpsHigh => (0x2130, 0xFFFF)
  | .cmdPeriodic2MpsLow => (0x222B, 0xFFFF)
  | .cmdPeriodic2MpsMedium => (0x2220, 0xFFFF)
  | .cmdPeriodic2MpsHigh => (0x2236, 0xFFFF)
  | .cmdPeriodic4MpsLow => (0x2329, 0xFFFF)
  | .cmdPeriodic4MpsMedium => (0x2322, 0xFFFF)
  | .cmdPeriodic4MpsHigh => (0x2334, 0xFFFF)
  | .cmdPeriodic10MpsLow => (0x272A, 0xFFFF)
  | .cmdPeriodic10MpsMedium => (0x2721, 0xFFFF)
  | .cmdPeriodic10MpsHigh => (0x2737, 0xFFFF)

/-- Both kinds of word as a number, bit 0 the least significant. -/
def InstrWord.bits : InstrWord → Nat
  | .req36 r => r.toNat
  | .wire16 w => w.toNat

/-! ## The enumerations' codes -/

/-- The codes of the command ids (R68). -/
def CommandId.code : CommandId → BitVec 5
  | .softreset => 0#5
  | .brk => 1#5
  | .heaterEnable => 2#5
  | .heaterDisable => 3#5
  | .readStatus => 4#5
  | .clearStatus => 5#5
  | .readSerial => 6#5
  | .measureLow => 7#5
  | .measureMedium => 8#5
  | .measureHigh => 9#5
  | .fetchPeriodicResult => 10#5
  | .readAlertHighSet => 11#5
  | .readAlertHighClear => 12#5
  | .readAlertLowSet => 13#5
  | .readAlertLowClear => 14#5
  | .writeAlertHighSet => 15#5
  | .writeAlertHighClear => 16#5
  | .writeAlertLowSet => 17#5
  | .writeAlertLowClear => 18#5

/-- The codes of the sampling rates (R69). -/
def Mps.code : Mps → BitVec 3
  | .mps0_5 => 0#3
  | .mps1 => 1#3
  | .mps2 => 2#3
  | .mps4 => 3#3
  | .mps10 => 4#3

/-- The codes of the repeatabilities (R69). -/
def Repeatability.code : Repeatability → BitVec 2
  | .low => 0#2
  | .medium => 1#2
  | .high => 2#2

/-- The command-word instruction that CMD.ENC's id selects (the table's `selected_by`). -/
def CommandId.instr : CommandId → Instr
  | .softreset => .cmdSoftreset
  | .brk => .cmdBreak
  | .heaterEnable => .cmdHeaterEnable
  | .heaterDisable => .cmdHeaterDisable
  | .readStatus => .cmdReadStatus
  | .clearStatus => .cmdClearStatus
  | .readSerial => .cmdReadSerial
  | .measureLow => .cmdMeasureLow
  | .measureMedium => .cmdMeasureMedium
  | .measureHigh => .cmdMeasureHigh
  | .fetchPeriodicResult => .cmdFetchPeriodicResult
  | .readAlertHighSet => .cmdReadAlertHighSet
  | .readAlertHighClear => .cmdReadAlertHighClear
  | .readAlertLowSet => .cmdReadAlertLowSet
  | .readAlertLowClear => .cmdReadAlertLowClear
  | .writeAlertHighSet => .cmdWriteAlertHighSet
  | .writeAlertHighClear => .cmdWriteAlertHighClear
  | .writeAlertLowSet => .cmdWriteAlertLowSet
  | .writeAlertLowClear => .cmdWriteAlertLowClear

/-- The command-word instruction that CMD.PER's pair selects (the table's `selected_by`). -/
def periodicInstr : Mps → Repeatability → Instr
  | .mps0_5, .low => .cmdPeriodicHalfMpsLow
  | .mps0_5, .medium => .cmdPeriodicHalfMpsMedium
  | .mps0_5, .high => .cmdPeriodicHalfMpsHigh
  | .mps1, .low => .cmdPeriodic1MpsLow
  | .mps1, .medium => .cmdPeriodic1MpsMedium
  | .mps1, .high => .cmdPeriodic1MpsHigh
  | .mps2, .low => .cmdPeriodic2MpsLow
  | .mps2, .medium => .cmdPeriodic2MpsMedium
  | .mps2, .high => .cmdPeriodic2MpsHigh
  | .mps4, .low => .cmdPeriodic4MpsLow
  | .mps4, .medium => .cmdPeriodic4MpsMedium
  | .mps4, .high => .cmdPeriodic4MpsHigh
  | .mps10, .low => .cmdPeriodic10MpsLow
  | .mps10, .medium => .cmdPeriodic10MpsMedium
  | .mps10, .high => .cmdPeriodic10MpsHigh

/-! ## The host's numbering of the table's rows -/

/-- The word the host means by `nbits` and `w`: the table's two formats have 16 and 36 bits (40 in whole bytes), so 16 bits or
fewer are a wire command word and more are a request (log 11). -/
def tableWord (nbits w : Nat) : InstrWord :=
  if nbits ≤ 16 then .wire16 (BitVec.ofNat 16 w) else .req36 (BitVec.ofNat 36 w)

/-- The instruction the decoder reads from the word; none where it refuses, and none for a number that no such word has. -/
def decodeTableWord (nbits w : Nat) : Option Instr :=
  if (tableWord nbits w).bits ≠ w then none
  else match decode (tableWord nbits w) with
    | .instr i => some i
    | .raised _ => none
    | .unlisted => none

end Sys2Proof
end

