-- ==== Sys2Proof/Config.lean ====
section
/-! DEFINITION. R5's values for this hardware of the parameters `CRC_POLY`, `CRC_INIT` and `ALERT_LAYOUT`; the converter's constants, which
are no parameters (R24, R170); and the one parameter the spec leaves open, `LATENCY` (R5, R234). -/

namespace Sys2Proof.Config

/-- The value of `CRC_POLY` for this hardware (R5, R140): x^8 + x^5 + x^4 + 1 with its x^8 term dropped. -/
def crcPoly : BitVec 8 := 0x31#8

/-- The value of `CRC_INIT` for this hardware (R5, R140). -/
def crcInit : BitVec 8 := 0xFF#8

/-- The value of `ALERT_LAYOUT` for this hardware, big-endian (R5, R107; D19, conflict C3): bit `k` of the limit value stands at bit `k`
of `{b0, b1}`, so `b0` is bits 15:8 and `b1` bits 7:0. -/
def alertLayout : Vector (Fin 16) 16 := #v[0, 1, 2, 3, 4, 5, 6, 7, 8, 9, 10, 11, 12, 13, 14, 15]

/-- The converter's factor 175, exact (R170). -/
def celsiusSpan : Nat := 175

/-- The converter's divisor 65535, exact (R170). -/
def rawFullScale : Nat := 65535

/-- The converter's offset 45, exact (R170). -/
def celsiusOffset : Nat := 45

/-- `LATENCY` (R5, R234): the time from a request to its response, left OPEN. "No rule of the block depends on it"
(R234), and no definition of this model reads it (log 10). -/
opaque latency : Nat

end Sys2Proof.Config
end

