-- ==== Sys2Proof/Machine/Tables.lean ====
section
/-! DEFINITION. The parameters of R5 a block is built with, as plain data: the read-only tables of R24 (10_state.md) with their reference
contents (R100, R101, R105), and `CRC_POLY`, `CRC_INIT` and `ALERT_LAYOUT` with their values for this hardware. State carries them, so
that a statement for every state holds for every block, and only `State.reset` names values (log 4 and log 14). -/

namespace Sys2Proof.Machine

/-- The tables of R24. -/
structure Rom where
  /-- `CMD_WORD`, by command id 0..18 (R100). -/
  cmdWord : Vector Word16 19
  /-- `PER_HI`, by mps code 0..4 (R101). -/
  perHi : Vector Byte 5
  /-- `PER_LO`, by mps code 0..4 and repeatability code 0..2 (R101). -/
  perLo : Vector (Vector Byte 3) 5
  /-- `STATUS_BIT`, by flag 0..5: a position 0..15 in the status word (R105). -/
  statusBit : Vector (Fin 16) 6
  deriving DecidableEq, Repr

/-- The reference command words of R100. Ids 0, 1 and 4 are the document's; the other sixteen are marked
[from general knowledge, not in source] there. PRESUMED (log 4). -/
def referenceCmdWord : Vector Word16 19 :=
  #v[0x30A2#16, 0x3093#16, 0x306D#16, 0x3066#16, 0xF32D#16, 0x3041#16, 0x3780#16, 0x2416#16, 0x240B#16, 0x2400#16,
     0xE000#16, 0xE11F#16, 0xE114#16, 0xE102#16, 0xE109#16, 0x611D#16, 0x6116#16, 0x6100#16, 0x610B#16]

/-- The reference high bytes of R101. PRESUMED (log 4). -/
def referencePerHi : Vector Byte 5 := #v[0x20#8, 0x21#8, 0x22#8, 0x23#8, 0x27#8]

/-- The reference suffixes of R101, each row Low, Medium, High. PRESUMED (log 4). -/
def referencePerLo : Vector (Vector Byte 3) 5 :=
  #v[#v[0x2F#8, 0x24#8, 0x32#8],
     #v[0x2D#8, 0x26#8, 0x30#8],
     #v[0x2B#8, 0x20#8, 0x36#8],
     #v[0x29#8, 0x22#8, 0x34#8],
     #v[0x2A#8, 0x21#8, 0x37#8]]

/-- The reference positions of R105, in the order checksumError, commandError, systemReset, tempAlert, alertPending, heater.
Flags 0 and 4 are the document's; the other four are PRESUMED (log 4). -/
def referenceStatusBit : Vector (Fin 16) 6 := #v[0, 1, 4, 10, 15, 13]

/-- The reference tables. -/
def referenceRom : Rom :=
  { cmdWord := referenceCmdWord, perHi := referencePerHi, perLo := referencePerLo, statusBit := referenceStatusBit }

/-- What the document itself fixes of the tables' contents: command words 0, 1 and 4 (R100), the fifteen suffixes pairwise
distinct (R101), status positions 0 and 4, and the six positions distinct (R105). -/
def Rom.wf (t : Rom) : Bool :=
  decide (t.cmdWord[0] = 0x30A2#16) && decide (t.cmdWord[1] = 0x3093#16) && decide (t.cmdWord[4] = 0xF32D#16)
  && decide (t.perLo.toList.flatMap Vector.toList).Nodup
  && decide (t.statusBit[0] = 0) && decide (t.statusBit[4] = 15) && decide t.statusBit.toList.Nodup

/-- `ALERT_LAYOUT` (R5, R107) as a placement of bits: bit `k` of the limit value stands at bit `layout[k]` of `{b0, b1}` (log 14). -/
abbrev AlertLayout := Vector (Fin 16) 16

/-- The parameters of R5 that are no tables. -/
structure Params where
  /-- `CRC_POLY`. -/
  crcPoly : Byte
  /-- `CRC_INIT`. -/
  crcInit : Byte
  /-- `ALERT_LAYOUT`. -/
  alertLayout : AlertLayout
  deriving DecidableEq, Repr

/-- R5's values for this hardware. -/
def referenceParams : Params :=
  { crcPoly := Config.crcPoly, crcInit := Config.crcInit, alertLayout := Config.alertLayout }

/-- What the document itself fixes of them: the polynomial and the initial value (R5, R140), and that the layout keeps every bit, without
which its property "decode(encode(set, clear)) == (set, clear)" (R107) cannot hold. -/
def Params.wf (p : Params) : Bool :=
  decide (p.crcPoly = 0x31#8) && decide (p.crcInit = 0xFF#8) && decide p.alertLayout.toList.Nodup

end Sys2Proof.Machine
end

