-- ==== Sys2Proof/Machine/State.lean ====
section
/-! DEFINITION. The state, the reasons a step can stop, and the state after reset. -/

namespace Sys2Proof.Machine

/-- A response (R61): the result bus `Y` and the error code `ERR`. -/
structure Response where
  y : ResultBus
  err : ErrCode
  deriving DecidableEq, Repr

/-- What reaches the block's interface from outside. -/
inductive HostEvent where
  /-- The host issues a word: a request to the block (R60), or a command word to the sensor's wire (R42). -/
  | issue (w : InstrWord)
  /-- Reset arrives (R230). `inProgress` is the request, if any, that was being processed: it is "abandoned without a response". -/
  | reset (inProgress : Option Request)
  deriving DecidableEq, Repr

/-- What the data words of a command's response are: R110's column "meaning of the data words". -/
inductive DataMeaning where
  /-- The command has no response. -/
  | nothing
  /-- A status word (R106). -/
  | statusWord
  /-- The serial number `{w0, w1}` (R44). -/
  | serialNumber
  /-- A raw temperature code (R171). -/
  | rawCode
  /-- An alert-limit value (R108). -/
  | alertLimit
  deriving DecidableEq, Repr

/-- A command word on the sensor's wire: its two bytes in wire order (R42), and what R110 says follows it. -/
structure WireCommand where
  byte0 : Byte
  byte1 : Byte
  /-- How many 16-bit payload words, each with its CRC, the host writes after the command word. -/
  payloadWords : Nat
  /-- How many 3-byte groups the host reads as the response. -/
  responseGroups : Nat
  /-- What the response's data words mean. -/
  data : DataMeaning
  deriving DecidableEq, Repr

/-- The state. `crcAcc` is the block's one register (R20); `rom` and `params` are the parameters the block was built with (R5, R24); the
other three are the model's record of the interface (log 1, 2, 3), which no operation reads (R22). -/
structure State where
  /-- `CRC_ACC` (R21). -/
  crcAcc : Byte
  /-- The tables of R24. No operation writes them. -/
  rom : Rom
  /-- `CRC_POLY`, `CRC_INIT` and `ALERT_LAYOUT` (R5; log 14). No operation writes them. -/
  params : Params
  /-- The events issued and not yet taken, oldest first. -/
  inbox : List HostEvent
  /-- The responses delivered to the host, newest first. -/
  responses : List Response
  /-- The command words on the sensor's wire, newest first. -/
  wire : List WireCommand
  deriving DecidableEq, Repr

/-- The reasons the machine stops with a fault: none. "The block has no trap, exception vector, handler or interrupt. Each error
is reported in the ERR field of the response" (R200). -/
inductive Fault where
  deriving DecidableEq, Repr

/-- The reasons a step has no meaning. -/
inductive Refusal where
  /-- An instruction that has no meaning yet, by its mnemonic. Raised by no arm of `exec`. Safe. -/
  | notModelled (mnemonic : String)
  /-- The host put on the wire a 16-bit word that is no row of the opcode table (log 5). Raised by `step`. Safe: the machine stops
  where the block would go on unchanged. -/
  | unlistedWireCommand (w : Word16)
  deriving DecidableEq, Repr

/-- A block built with tables `t` and parameters `p` (R5), right after reset (R26, R230): `CRC_ACC` = `CRC_INIT`, nothing in progress and
nothing pending. -/
def State.built (t : Rom) (p : Params) : State :=
  { crcAcc := p.crcInit, rom := t, params := p, inbox := [], responses := [], wire := [] }

/-- The machine right after reset: the block built with R5's values for this hardware, so `CRC_ACC` = 0xFF (the tables: log 4). -/
def State.reset : State := State.built referenceRom referenceParams

end Sys2Proof.Machine
end

