-- ==== Sys2Proof/Machine/Operands.lean ====
section
/-! DEFINITION. The operand and result forms: bytes of words, wire order (R42 to R46), the checksum function (R140 to R142), the
alert layout (R107) and the status flags (R105, R106). -/

namespace Sys2Proof.Machine

/-- `w[15:8]`, first on the wire (R42). -/
def highByte (w : Word16) : Byte := w.extractLsb' 8 8

/-- `w[7:0]`, second on the wire (R42). -/
def lowByte (w : Word16) : Byte := w.extractLsb' 0 8

/-- `{d0, d1}`: a data word from its bytes in wire order (R43). -/
def wordOfBytes (d0 d1 : Byte) : Word16 := d0 ++ d1

/-- The serial number `{w0, w1}`, first group most significant (R44). -/
def serialOfWords (w0 w1 : Word16) : BitVec 32 := w0 ++ w1

/-- The wire bytes of a word (R42). -/
def wireBytes (w : Word16) : List Byte := [highByte w, lowByte w]

/-- One round of R141: shift left, and XOR with the polynomial if the top bit was set. -/
def crcRound (poly c : Byte) : Byte :=
  if c.getLsbD 7 then (c <<< 1) ^^^ poly else c <<< 1

/-- One byte step, `crc_step(c, b)` (R141): XOR with the byte, then eight rounds. -/
def crcStep (poly c b : Byte) : Byte :=
  Nat.repeat (crcRound poly) 8 (c ^^^ b)

/-- `crc8(bs)` (R142): the left fold of `crc_step` from `CRC_INIT`. -/
def crc8 (p : Params) (bs : List Byte) : Byte := bs.foldl (crcStep p.crcPoly) p.crcInit

/-- The five bytes of a write frame (R104), byte 0 at `Y[39:32]` (R45): the command word, the payload, the payload's CRC. -/
def writeFrame (q : Params) (cmd p : Word16) : ResultBus :=
  highByte cmd ++ lowByte cmd ++ highByte p ++ lowByte p ++ crc8 q (wireBytes p)

/-- `decodeAlert(b0, b1)` (R107) under a layout: bit `k` of the limit value is bit `layout[k]` of `{b0, b1}`. -/
def decodeAlert (layout : AlertLayout) (b0 b1 : Byte) : Word16 :=
  BitVec.ofFnLE fun k => (wordOfBytes b0 b1).getLsbD layout[k]

/-- The word `{b0, b1}` of a limit value under a layout: bit `j` is set where a bit of the limit value placed at `j` is. -/
def alertWord (layout : AlertLayout) (lim : Word16) : Word16 :=
  BitVec.ofFnLE fun j => (List.finRange 16).any fun k => decide (layout[k] = j) && lim.getLsbD k

/-- `encodeAlert(L)` (R107) under a layout: the two wire bytes. -/
def encodeAlert (layout : AlertLayout) (lim : Word16) : Byte × Byte :=
  (highByte (alertWord layout lim), lowByte (alertWord layout lim))

/-- The six flags of a status word, `{f[5], ..., f[0]}` with `f[k] = s[STATUS_BIT[k]]` (R106). -/
def statusFlags (pos : Vector (Fin 16) 6) (w : Word16) : BitVec 6 :=
  BitVec.ofBool (w.getLsbD pos[5]) ++ BitVec.ofBool (w.getLsbD pos[4]) ++ BitVec.ofBool (w.getLsbD pos[3])
    ++ BitVec.ofBool (w.getLsbD pos[2]) ++ BitVec.ofBool (w.getLsbD pos[1]) ++ BitVec.ofBool (w.getLsbD pos[0])

/-- `zext_40(v)` (R7): a result on the result bus, the bits not assigned being zero (R61). -/
def zext40 {n : Nat} (v : BitVec n) : ResultBus := v.setWidth 40

end Sys2Proof.Machine
end

