-- ==== Sys2Proof/Machine/Flags.lean ====
section
/-! DEFINITION. The one "flag" a response carries, its error code (R8, R62). -/

namespace Sys2Proof

/-- The 3-bit code of `ERR` (R62). -/
def ErrCode.bits : ErrCode → BitVec 3
  | .noError => 0#3
  | .crcMismatch => 1#3
  | .illegalOp => 2#3
  | .badOperand => 3#3
  | .range => 4#3

end Sys2Proof

namespace Sys2Proof.Machine

/-- The verdict of CRC.CHK and WORD.CHK (R146, R148): NONE if the computed CRC is the received one, else CRC_MISMATCH. -/
def crcVerdict (computed received : Byte) : ErrCode :=
  if computed = received then .noError else .crcMismatch

end Sys2Proof.Machine
end

