-- ==== Sys2Proof/Machine/Ops.lean ====
section
/-! DEFINITION. The named operations over the state (the primitives of R7), and what an error does (R202). -/

namespace Sys2Proof.Machine

/-- `respond(Y, ERR)` (R7): end an operation, delivering its one response (R61). -/
def State.respond (s : State) (y : ResultBus) (e : ErrCode) : State :=
  { s with responses := { y := y, err := e } :: s.responses }

/-- `raise E` (R7, R202): `respond(0, E)` with no state written. No trap follows (R200). This is the block's only way of
"taking an exception"; there is nothing to return from (R205). -/
def State.raise (s : State) (e : ErrCode) : State := s.respond 0#40 e

/-- `CRC_ACC <- v` (R7). -/
def State.writeAcc (s : State) (v : Byte) : State := { s with crcAcc := v }

/-- `Rom(CMD_WORD, id)` (R7, R24). -/
def State.romCmdWord (s : State) (id : Fin 19) : Word16 := s.rom.cmdWord[id]

/-- `Rom(PER_HI, m)` (R7, R24). -/
def State.romPerHi (s : State) (m : Fin 5) : Byte := s.rom.perHi[m]

/-- `Rom(PER_LO, (m, r))` (R7, R24). -/
def State.romPerLo (s : State) (m : Fin 5) (r : Fin 3) : Byte := s.rom.perLo[m][r]

/-- The host puts a command word on the sensor's wire, most significant byte first (R42), with what R110 says follows it. The block
is unchanged (R25). -/
def State.sendCommand (s : State) (w : Word16) (payloadWords responseGroups : Nat) (data : DataMeaning) : State :=
  { s with wire := { byte0 := highByte w, byte1 := lowByte w, payloadWords := payloadWords,
                     responseGroups := responseGroups, data := data } :: s.wire }

/-- Reset (R230): `CRC_ACC <- CRC_INIT`, the parameters unaffected, a request in progress abandoned without a response. -/
def State.resetBlock (s : State) : State := s.writeAcc s.params.crcInit

/-- The state once the oldest pending event is taken. -/
def State.withInbox (s : State) (rest : List HostEvent) : State := { s with inbox := rest }

end Sys2Proof.Machine
end

