-- ==== Sys2Proof/Machine/Checksum.lean ====
section
/-! DEFINITION. The checksum engine operations (42_checksum.md) and the validity of a read frame (R149). -/

namespace Sys2Proof.Machine

/-- CRC.INIT (R143). -/
def execCrcInit (s : State) : Host.Outcome State Fault Refusal :=
  .next ((s.writeAcc s.params.crcInit).respond (zext40 s.params.crcInit) .noError)

/-- CRC.UPD (R144). -/
def execCrcUpd (b : Byte) (s : State) : Host.Outcome State Fault Refusal :=
  .next ((s.writeAcc (crcStep s.params.crcPoly s.crcAcc b)).respond (zext40 (crcStep s.params.crcPoly s.crcAcc b)) .noError)

/-- CRC.RD (R145). -/
def execCrcRd (s : State) : Host.Outcome State Fault Refusal :=
  .next (s.respond (zext40 s.crcAcc) .noError)

/-- CRC.CHK (R146): the received byte is compared, not fed. -/
def execCrcChk (c : Byte) (s : State) : Host.Outcome State Fault Refusal :=
  .next (s.respond (zext40 s.crcAcc) (crcVerdict s.crcAcc c))

/-- CRC.WORD (R147). -/
def execCrcWord (d : Word16) (s : State) : Host.Outcome State Fault Refusal :=
  .next (s.respond (zext40 (crc8 s.params (wireBytes d))) .noError)

/-- WORD.CHK (R148): `Y[23:16]` is the computed CRC and `Y[15:0]` the received word, whatever the verdict. -/
def execWordChk (d0 d1 c : Byte) (s : State) : Host.Outcome State Fault Refusal :=
  .next (s.respond (zext40 (crc8 s.params [d0, d1] ++ wordOfBytes d0 d1)) (crcVerdict (crc8 s.params [d0, d1]) c))

/-- A read frame of `g` groups is valid (R149): it has `3g` bytes and each group's CRC byte is its data word's checksum (R43). -/
def frameValid (p : Params) : Nat → List Byte → Bool
  | 0, bs => bs.isEmpty
  | g + 1, d0 :: d1 :: c :: rest => decide (crcVerdict (crc8 p [d0, d1]) c = .noError) && frameValid p g rest
  | _ + 1, _ => false

end Sys2Proof.Machine
end

