-- ==== Sys2Proof/Machine/Codec.lean ====
section
/-! DEFINITION. The command codec operations (41_command_codec.md). -/

namespace Sys2Proof.Machine

/-- CMD.ENC (R102). -/
def execCmdEnc (id : BitVec 5) (s : State) : Host.Outcome State Fault Refusal :=
  if h : id.toNat < 19 then .next (s.respond (zext40 (s.romCmdWord ⟨id.toNat, h⟩)) .noError)
  else .next (s.raise .badOperand)

/-- CMD.PER (R103). -/
def execCmdPer (m : BitVec 3) (r : BitVec 2) (s : State) : Host.Outcome State Fault Refusal :=
  if h : m.toNat < 5 ∧ r.toNat < 3 then
    .next (s.respond (zext40 (s.romPerHi ⟨m.toNat, h.1⟩ ++ s.romPerLo ⟨m.toNat, h.1⟩ ⟨r.toNat, h.2⟩)) .noError)
  else .next (s.raise .badOperand)

/-- FRAME.PAY (R104): the CRC covers the payload only. -/
def execFramePay (cmd p : Word16) (s : State) : Host.Outcome State Fault Refusal :=
  .next (s.respond (writeFrame s.params cmd p) .noError)

/-- STAT.DEC (R106). -/
def execStatDec (w : Word16) (s : State) : Host.Outcome State Fault Refusal :=
  .next (s.respond (zext40 (statusFlags s.rom.statusBit w)) .noError)

/-- ALRT.DEC (R108). -/
def execAlrtDec (b0 b1 : Byte) (s : State) : Host.Outcome State Fault Refusal :=
  .next (s.respond (zext40 (decodeAlert s.params.alertLayout b0 b1)) .noError)

/-- ALRT.ENC (R109): `b0` first on the wire, at `Y[15:8]`. -/
def execAlrtEnc (lim : Word16) (s : State) : Host.Outcome State Fault Refusal :=
  .next (s.respond (zext40 (wordOfBytes (encodeAlert s.params.alertLayout lim).1 (encodeAlert s.params.alertLayout lim).2)) .noError)

end Sys2Proof.Machine
end

