-- ==== Sys2Proof/Machine/Float32.lean ====
section
/-! DEFINITION. IEEE 754 binary32 as R7 (00_scope.md) and R170 (43_converter.md) use it: `f32`, `fl32`, `bits32`.
Every finite binary32 value is a whole number of units of 2^-149, the least positive one, so a finite value is an `Int`: its
number of units. The sign of a zero is not kept (log 8). NaN is the `none` of `f32`; no operation is applied to one (R172). -/

namespace Sys2Proof.Machine

/-- A binary32 value that is not a NaN. -/
inductive F32 where
  /-- The real number `units * 2^-149`. -/
  | finite (units : Int)
  | inf (negative : Bool)
  deriving DecidableEq, Repr

/-- How many units make the number 1. -/
def unitsPerOne : Nat := 2 ^ 149

/-- `n / d` rounded to the nearest whole number, ties to the even one. -/
def roundHalfEven (n d : Nat) : Nat :=
  if 2 * (n % d) < d then n / d
  else if d < 2 * (n % d) then n / d + 1
  else if n / d % 2 = 0 then n / d
  else n / d + 1

/-- The spacing, in units, of the binary32 values around `n / d` units: 24 significant bits, and never below one unit. -/
def spacing (n d : Nat) : Nat := 2 ^ (Nat.log2 (n / d) - 23)

/-- The magnitude `n / d` units rounded to 24 significant bits, with no bound on the exponent. -/
def roundMagnitude (n d : Nat) : Nat := roundHalfEven n (d * spacing n d) * spacing n d

/-- `fl32(x)` (R7) of the real number `num / den` units: round to nearest, ties to even; an infinity "when the rounded magnitude is
2^128 or more". -/
def fl32 (num : Int) (den : Nat) : F32 :=
  if 2 ^ 128 * unitsPerOne ≤ roundMagnitude num.natAbs den then .inf (decide (num < 0))
  else if num < 0 then .finite (-(roundMagnitude num.natAbs den : Int))
  else .finite (roundMagnitude num.natAbs den)

/-- `f32(b)` (R7): the value the pattern encodes; none for a NaN. -/
def f32 (b : BitVec 32) : Option F32 :=
  let exponent := (b.extractLsb' 23 8).toNat
  let fraction := (b.extractLsb' 0 23).toNat
  let magnitude := if exponent = 0 then fraction else (2 ^ 23 + fraction) * 2 ^ (exponent - 1)
  if exponent = 255 then (if fraction = 0 then some (.inf (b.getLsbD 31)) else none)
  else if b.getLsbD 31 then some (.finite (-(magnitude : Int)))
  else some (.finite magnitude)

/-- The pattern, without its sign bit, of a finite magnitude: the fraction with its implicit bit, plus the exponent field less
one. -/
def magnitudeBits (m : Nat) : Nat := m / 2 ^ (Nat.log2 m - 23) + (Nat.log2 m - 23) * 2 ^ 23

/-- `bits32(f)` (R7): the pattern of a binary32 value. -/
def bits32 : F32 → BitVec 32
  | .inf negative => if negative then 0xFF800000#32 else 0x7F800000#32
  | .finite k => if k < 0 then BitVec.ofNat 32 (2 ^ 31 + magnitudeBits k.natAbs) else BitVec.ofNat 32 (magnitudeBits k.natAbs)

/-- `fl32(x + n)`; an infinity stays (log 9). -/
def F32.addInt (x : F32) (n : Int) : F32 :=
  match x with
  | .inf negative => .inf negative
  | .finite k => fl32 (k + n * unitsPerOne) 1

/-- `fl32(x * n)` for a positive `n`; an infinity stays (log 9). -/
def F32.mulNat (x : F32) (n : Nat) : F32 :=
  match x with
  | .inf negative => .inf negative
  | .finite k => fl32 (k * n) 1

/-- `fl32(x / n)` for a positive `n`; an infinity stays (log 9). -/
def F32.divNat (x : F32) (n : Nat) : F32 :=
  match x with
  | .inf negative => .inf negative
  | .finite k => fl32 k n

end Sys2Proof.Machine
end

