-- ==== Sys2Proof/Machine/Converter.lean ====
section
/-! DEFINITION. The temperature converter operations (43_converter.md). -/

namespace Sys2Proof.Machine

/-- `t3` of R171: `v * 175 / 65535 - 45`, left to right, one rounding per operation. -/
def rawToCelsius (v : Word16) : F32 :=
  ((fl32 (v.toNat * Config.celsiusSpan * unitsPerOne : Nat) 1).divNat Config.rawFullScale).addInt (-Config.celsiusOffset)

/-- `s3` of R172: `(c + 45) * 65535 / 175`, left to right, one rounding per operation. -/
def celsiusScaled (c : F32) : F32 :=
  ((c.addInt Config.celsiusOffset).mulNat Config.rawFullScale).divNat Config.celsiusSpan

/-- The raw code R172 answers for the scaled value `s3`; none where it raises RANGE. Truncation is toward zero. -/
def truncToRaw : F32 → Option Word16
  | .inf _ => none
  | .finite k =>
    if k ≤ -(unitsPerOne : Int) ∨ 65536 * (unitsPerOne : Int) ≤ k then none
    else some (BitVec.ofInt 16 (k.tdiv unitsPerOne))

/-- The raw code of R172; none where it raises RANGE (a NaN, an infinity, or `s3` outside (-1, 65536)). -/
def celsiusToRaw (cb : BitVec 32) : Option Word16 :=
  match f32 cb with
  | none => none
  | some (.inf _) => none
  | some (.finite k) => truncToRaw (celsiusScaled (.finite k))

/-- CVT.R2C (R171). -/
def execCvtR2c (v : Word16) (s : State) : Host.Outcome State Fault Refusal :=
  .next (s.respond (zext40 (bits32 (rawToCelsius v))) .noError)

/-- CVT.C2R (R172). -/
def execCvtC2r (cb : BitVec 32) (s : State) : Host.Outcome State Fault Refusal :=
  match celsiusToRaw cb with
  | none => .next (s.raise .range)
  | some raw => .next (s.respond (zext40 raw) .noError)

end Sys2Proof.Machine
end

