-- ==== Sys2Proof/Machine/WireCommands.lean ====
section
/-! DEFINITION. The sensor's command words (the `wire_cmd16` rows; R100, R101): the host puts the word on the sensor's wire (R42).
The block is unchanged ("Nothing in the block changes except in response to a request or to reset", R25; "The sensor's own reset
commands ... reset the sensor, not the block", R230) and gives no response. What follows the word is R110's: how many payload
words the host writes, how many response groups it reads, what their data words mean. What the
sensor does with the word is out of scope (R4; log 3). -/

namespace Sys2Proof.Machine

/-- CMD_SOFTRESET (R100, R110). -/
def execCmdSoftreset (s : State) : Host.Outcome State Fault Refusal := .next (s.sendCommand 0x30A2#16 0 0 .nothing)

/-- CMD_BREAK (R100, R110). -/
def execCmdBreak (s : State) : Host.Outcome State Fault Refusal := .next (s.sendCommand 0x3093#16 0 0 .nothing)

/-- CMD_HEATER_ENABLE (R100, R110). -/
def execCmdHeaterEnable (s : State) : Host.Outcome State Fault Refusal := .next (s.sendCommand 0x306D#16 0 0 .nothing)

/-- CMD_HEATER_DISABLE (R100, R110). -/
def execCmdHeaterDisable (s : State) : Host.Outcome State Fault Refusal := .next (s.sendCommand 0x3066#16 0 0 .nothing)

/-- CMD_READ_STATUS (R100, R110). -/
def execCmdReadStatus (s : State) : Host.Outcome State Fault Refusal := .next (s.sendCommand 0xF32D#16 0 1 .statusWord)

/-- CMD_CLEAR_STATUS (R100, R110). -/
def execCmdClearStatus (s : State) : Host.Outcome State Fault Refusal := .next (s.sendCommand 0x3041#16 0 0 .nothing)

/-- CMD_READ_SERIAL (R100, R110). -/
def execCmdReadSerial (s : State) : Host.Outcome State Fault Refusal := .next (s.sendCommand 0x3780#16 0 2 .serialNumber)

/-- CMD_MEASURE_LOW (R100, R110). -/
def execCmdMeasureLow (s : State) : Host.Outcome State Fault Refusal := .next (s.sendCommand 0x2416#16 0 1 .rawCode)

/-- CMD_MEASURE_MEDIUM (R100, R110). -/
def execCmdMeasureMedium (s : State) : Host.Outcome State Fault Refusal := .next (s.sendCommand 0x240B#16 0 1 .rawCode)

/-- CMD_MEASURE_HIGH (R100, R110). -/
def execCmdMeasureHigh (s : State) : Host.Outcome State Fault Refusal := .next (s.sendCommand 0x2400#16 0 1 .rawCode)

/-- CMD_FETCH_PERIODIC_RESULT (R100, R110). -/
def execCmdFetchPeriodicResult (s : State) : Host.Outcome State Fault Refusal := .next (s.sendCommand 0xE000#16 0 1 .rawCode)

/-- CMD_READ_ALERT_HIGH_SET (R100, R110). -/
def execCmdReadAlertHighSet (s : State) : Host.Outcome State Fault Refusal := .next (s.sendCommand 0xE11F#16 0 1 .alertLimit)

/-- CMD_READ_ALERT_HIGH_CLEAR (R100, R110). -/
def execCmdReadAlertHighClear (s : State) : Host.Outcome State Fault Refusal := .next (s.sendCommand 0xE114#16 0 1 .alertLimit)

/-- CMD_READ_ALERT_LOW_SET (R100, R110). -/
def execCmdReadAlertLowSet (s : State) : Host.Outcome State Fault Refusal := .next (s.sendCommand 0xE102#16 0 1 .alertLimit)

/-- CMD_READ_ALERT_LOW_CLEAR (R100, R110). -/
def execCmdReadAlertLowClear (s : State) : Host.Outcome State Fault Refusal := .next (s.sendCommand 0xE109#16 0 1 .alertLimit)

/-- CMD_WRITE_ALERT_HIGH_SET (R100, R110). -/
def execCmdWriteAlertHighSet (s : State) : Host.Outcome State Fault Refusal := .next (s.sendCommand 0x611D#16 1 0 .nothing)

/-- CMD_WRITE_ALERT_HIGH_CLEAR (R100, R110). -/
def execCmdWriteAlertHighClear (s : State) : Host.Outcome State Fault Refusal := .next (s.sendCommand 0x6116#16 1 0 .nothing)

/-- CMD_WRITE_ALERT_LOW_SET (R100, R110). -/
def execCmdWriteAlertLowSet (s : State) : Host.Outcome State Fault Refusal := .next (s.sendCommand 0x6100#16 1 0 .nothing)

/-- CMD_WRITE_ALERT_LOW_CLEAR (R100, R110). -/
def execCmdWriteAlertLowClear (s : State) : Host.Outcome State Fault Refusal := .next (s.sendCommand 0x610B#16 1 0 .nothing)

/-- CMD_PERIODIC_0_5MPS_LOW (R101, R110). -/
def execCmdPeriodicHalfMpsLow (s : State) : Host.Outcome State Fault Refusal := .next (s.sendCommand 0x202F#16 0 0 .nothing)

/-- CMD_PERIODIC_0_5MPS_MEDIUM (R101, R110). -/
def execCmdPeriodicHalfMpsMedium (s : State) : Host.Outcome State Fault Refusal := .next (s.sendCommand 0x2024#16 0 0 .nothing)

/-- CMD_PERIODIC_0_5MPS_HIGH (R101, R110). -/
def execCmdPeriodicHalfMpsHigh (s : State) : Host.Outcome State Fault Refusal := .next (s.sendCommand 0x2032#16 0 0 .nothing)

/-- CMD_PERIODIC_1MPS_LOW (R101, R110). -/
def execCmdPeriodic1MpsLow (s : State) : Host.Outcome State Fault Refusal := .next (s.sendCommand 0x212D#16 0 0 .nothing)

/-- CMD_PERIODIC_1MPS_MEDIUM (R101, R110). -/
def execCmdPeriodic1MpsMedium (s : State) : Host.Outcome State Fault Refusal := .next (s.sendCommand 0x2126#16 0 0 .nothing)

/-- CMD_PERIODIC_1MPS_HIGH (R101, R110). -/
def execCmdPeriodic1MpsHigh (s : State) : Host.Outcome State Fault Refusal := .next (s.sendCommand 0x2130#16 0 0 .nothing)

/-- CMD_PERIODIC_2MPS_LOW (R101, R110). -/
def execCmdPeriodic2MpsLow (s : State) : Host.Outcome State Fault Refusal := .next (s.sendCommand 0x222B#16 0 0 .nothing)

/-- CMD_PERIODIC_2MPS_MEDIUM (R101, R110). -/
def execCmdPeriodic2MpsMedium (s : State) : Host.Outcome State Fault Refusal := .next (s.sendCommand 0x2220#16 0 0 .nothing)

/-- CMD_PERIODIC_2MPS_HIGH (R101, R110). -/
def execCmdPeriodic2MpsHigh (s : State) : Host.Outcome State Fault Refusal := .next (s.sendCommand 0x2236#16 0 0 .nothing)

/-- CMD_PERIODIC_4MPS_LOW (R101, R110). -/
def execCmdPeriodic4MpsLow (s : State) : Host.Outcome State Fault Refusal := .next (s.sendCommand 0x2329#16 0 0 .nothing)

/-- CMD_PERIODIC_4MPS_MEDIUM (R101, R110). -/
def execCmdPeriodic4MpsMedium (s : State) : Host.Outcome State Fault Refusal := .next (s.sendCommand 0x2322#16 0 0 .nothing)

/-- CMD_PERIODIC_4MPS_HIGH (R101, R110). -/
def execCmdPeriodic4MpsHigh (s : State) : Host.Outcome State Fault Refusal := .next (s.sendCommand 0x2334#16 0 0 .nothing)

/-- CMD_PERIODIC_10MPS_LOW (R101, R110). -/
def execCmdPeriodic10MpsLow (s : State) : Host.Outcome State Fault Refusal := .next (s.sendCommand 0x272A#16 0 0 .nothing)

/-- CMD_PERIODIC_10MPS_MEDIUM (R101, R110). -/
def execCmdPeriodic10MpsMedium (s : State) : Host.Outcome State Fault Refusal := .next (s.sendCommand 0x2721#16 0 0 .nothing)

/-- CMD_PERIODIC_10MPS_HIGH (R101, R110). -/
def execCmdPeriodic10MpsHigh (s : State) : Host.Outcome State Fault Refusal := .next (s.sendCommand 0x2737#16 0 0 .nothing)

end Sys2Proof.Machine
end

