-- ==== Sys2Proof/Machine/Dispatch.lean ====
section
/-! DEFINITION. The dispatch: one arm per constructor of Instr. -/

namespace Sys2Proof.Machine

-- The block's operations (R63), then the sensor's command words (R100, R101).
def exec (i : Instr) (s : State) : Host.Outcome State Fault Refusal :=
  match i with
  | .cmdEnc id => Sys2Proof.Machine.execCmdEnc id s
  | .cmdPer m r => Sys2Proof.Machine.execCmdPer m r s
  | .framePay cmd p => Sys2Proof.Machine.execFramePay cmd p s
  | .statDec w => Sys2Proof.Machine.execStatDec w s
  | .crcInit => Sys2Proof.Machine.execCrcInit s
  | .crcUpd b => Sys2Proof.Machine.execCrcUpd b s
  | .crcRd => Sys2Proof.Machine.execCrcRd s
  | .crcChk c => Sys2Proof.Machine.execCrcChk c s
  | .crcWord d => Sys2Proof.Machine.execCrcWord d s
  | .wordChk d0 d1 c => Sys2Proof.Machine.execWordChk d0 d1 c s
  | .cvtR2c v => Sys2Proof.Machine.execCvtR2c v s
  | .cvtC2r cb => Sys2Proof.Machine.execCvtC2r cb s
  | .alrtDec b0 b1 => Sys2Proof.Machine.execAlrtDec b0 b1 s
  | .alrtEnc lim => Sys2Proof.Machine.execAlrtEnc lim s
  | .cmdSoftreset => Sys2Proof.Machine.execCmdSoftreset s
  | .cmdBreak => Sys2Proof.Machine.execCmdBreak s
  | .cmdHeaterEnable => Sys2Proof.Machine.execCmdHeaterEnable s
  | .cmdHeaterDisable => Sys2Proof.Machine.execCmdHeaterDisable s
  | .cmdReadStatus => Sys2Proof.Machine.execCmdReadStatus s
  | .cmdClearStatus => Sys2Proof.Machine.execCmdClearStatus s
  | .cmdReadSerial => Sys2Proof.Machine.execCmdReadSerial s
  | .cmdMeasureLow => Sys2Proof.Machine.execCmdMeasureLow s
  | .cmdMeasureMedium => Sys2Proof.Machine.execCmdMeasureMedium s
  | .cmdMeasureHigh => Sys2Proof.Machine.execCmdMeasureHigh s
  | .cmdFetchPeriodicResult => Sys2Proof.Machine.execCmdFetchPeriodicResult s
  | .cmdReadAlertHighSet => Sys2Proof.Machine.execCmdReadAlertHighSet s
  | .cmdReadAlertHighClear => Sys2Proof.Machine.execCmdReadAlertHighClear s
  | .cmdReadAlertLowSet => Sys2Proof.Machine.execCmdReadAlertLowSet s
  | .cmdReadAlertLowClear => Sys2Proof.Machine.execCmdReadAlertLowClear s
  | .cmdWriteAlertHighSet => Sys2Proof.Machine.execCmdWriteAlertHighSet s
  | .cmdWriteAlertHighClear => Sys2Proof.Machine.execCmdWriteAlertHighClear s
  | .cmdWriteAlertLowSet => Sys2Proof.Machine.execCmdWriteAlertLowSet s
  | .cmdWriteAlertLowClear => Sys2Proof.Machine.execCmdWriteAlertLowClear s
  | .cmdPeriodicHalfMpsLow => Sys2Proof.Machine.execCmdPeriodicHalfMpsLow s
  | .cmdPeriodicHalfMpsMedium => Sys2Proof.Machine.execCmdPeriodicHalfMpsMedium s
  | .cmdPeriodicHalfMpsHigh => Sys2Proof.Machine.execCmdPeriodicHalfMpsHigh s
  | .cmdPeriodic1MpsLow => Sys2Proof.Machine.execCmdPeriodic1MpsLow s
  | .cmdPeriodic1MpsMedium => Sys2Proof.Machine.execCmdPeriodic1MpsMedium s
  | .cmdPeriodic1MpsHigh => Sys2Proof.Machine.execCmdPeriodic1MpsHigh s
  | .cmdPeriodic2MpsLow => Sys2Proof.Machine.execCmdPeriodic2MpsLow s
  | .cmdPeriodic2MpsMedium => Sys2Proof.Machine.execCmdPeriodic2MpsMedium s
  | .cmdPeriodic2MpsHigh => Sys2Proof.Machine.execCmdPeriodic2MpsHigh s
  | .cmdPeriodic4MpsLow => Sys2Proof.Machine.execCmdPeriodic4MpsLow s
  | .cmdPeriodic4MpsMedium => Sys2Proof.Machine.execCmdPeriodic4MpsMedium s
  | .cmdPeriodic4MpsHigh => Sys2Proof.Machine.execCmdPeriodic4MpsHigh s
  | .cmdPeriodic10MpsLow => Sys2Proof.Machine.execCmdPeriodic10MpsLow s
  | .cmdPeriodic10MpsMedium => Sys2Proof.Machine.execCmdPeriodic10MpsMedium s
  | .cmdPeriodic10MpsHigh => Sys2Proof.Machine.execCmdPeriodic10MpsHigh s

end Sys2Proof.Machine
end

