-- ==== Sys2Proof/Machine/Fetch.lean ====
section
/-! DEFINITION. How the block takes what reaches its interface: one event at a time, each completed before the next (R48, R49). -/

namespace Sys2Proof.Machine

/-- A word taken from the host: run the decoded instruction, or answer the decoder's error (R70, R202), or refuse a wire word that is
no row of the table (log 5). -/
def runWord (w : InstrWord) (s : State) : Host.Outcome State Fault Refusal :=
  match decode w with
  | .instr i => exec i s
  | .raised e => .next (s.raise e)
  | .unlisted => .refused (.unlistedWireCommand (BitVec.ofNat 16 w.bits))

/-- An event taken from the interface. -/
def runEvent (e : HostEvent) (s : State) : Host.Outcome State Fault Refusal :=
  match e with
  | .issue w => runWord w s
  | .reset _ => .next s.resetBlock

/-- Take the oldest pending event and complete it; with nothing pending the block waits, unchanged (R25, R200; log 6). -/
def takeEvent (s : State) : Host.Outcome State Fault Refusal :=
  match s.inbox with
  | [] => .next s
  | e :: rest => runEvent e (s.withInbox rest)

/-- `s` with the word issued first, so that the next step takes it (log 11). -/
def State.issueFirst (s : State) (w : InstrWord) : State := s.withInbox (.issue w :: s.inbox)

end Sys2Proof.Machine
end

