-- ==== Sys2Proof/Machine/Step.lean ====
section
/-! DEFINITION. One step, and the placing of a table word where the next step takes it. -/

namespace Sys2Proof.Machine

/-- One step: one event, taken and completed (R48, R49). -/
def step (s : State) : Host.Outcome State Fault Refusal := takeEvent s

/-- `s` with the table's word issued first (log 11). -/
def State.withFetchWord (s : State) (nbits w : Nat) : State := s.issueFirst (tableWord nbits w)

end Sys2Proof.Machine
end

