-- ==== Sys2Proof/Machine/Frames.lean ====
section
/-! DEFINITION. What the response to a command means: the last column of R110's table ("meaning of the data words"), over the frame a host
has read back. "The block uses this table only through the operations above": a data word goes to STAT.DEC, CVT.R2C or ALRT.DEC. -/

namespace Sys2Proof.Machine

/-- A response read by the meaning R110 gives its data words. -/
inductive Reading where
  /-- The six status flags (R106). -/
  | status (flags : BitVec 6)
  /-- The serial number (R44). -/
  | serial (number : BitVec 32)
  /-- A raw temperature code (R171). -/
  | rawCode (code : Word16)
  /-- An alert-limit value (R108). -/
  | alertLimit (limit : Word16)
  deriving DecidableEq, Repr

/-- How many response groups a response of this meaning has (R110). -/
def DataMeaning.groups : DataMeaning → Nat
  | .nothing => 0
  | .statusWord => 1
  | .serialNumber => 2
  | .rawCode => 1
  | .alertLimit => 1

/-- The data words of a read frame, in wire order: the first two bytes of each group (R43). -/
def frameWords : List Byte → List Word16
  | d0 :: d1 :: _ :: rest => wordOfBytes d0 d1 :: frameWords rest
  | _ => []

/-- The data words of a response, read by their meaning; none where their number is not the meaning's. -/
def DataMeaning.read (d : DataMeaning) (s : State) (words : List Word16) : Option Reading :=
  match d, words with
  | .statusWord, [w] => some (.status (statusFlags s.rom.statusBit w))
  | .serialNumber, [w0, w1] => some (.serial (serialOfWords w0 w1))
  | .rawCode, [w] => some (.rawCode w)
  | .alertLimit, [w] => some (.alertLimit (decodeAlert s.params.alertLayout (highByte w) (lowByte w)))
  | _, _ => none

/-- The response to a command, from the bytes read back: read only if the frame is valid (R149, R209). -/
def State.readResponse (s : State) (c : WireCommand) (bs : List Byte) : Option Reading :=
  if frameValid s.params c.responseGroups bs then c.data.read s (frameWords bs) else none

/-- The operation of the block a host gives a data word of this meaning to; none for the serial number, which the host joins itself
(R44). -/
def DataMeaning.request : DataMeaning → Word16 → Option Instr
  | .nothing, _ => none
  | .statusWord, w => some (.statDec w)
  | .serialNumber, _ => none
  | .rawCode, w => some (.cvtR2c w)
  | .alertLimit, w => some (.alrtDec (highByte w) (lowByte w))

end Sys2Proof.Machine
end

