-- ==== Sys2Proof/Machine/Pseudo.lean ====
section
/-! DEFINITION. The pseudo-instructions of R74: host-side macros. "The block sees only the requests it expands to, and it keeps no value
between them", so a macro is what the host issues next, given the responses it has had. -/

namespace Sys2Proof.Machine

/-- The pseudo-instructions of R74. -/
inductive Pseudo where
  /-- `CRC.SEQ b1, ..., bn`. -/
  | crcSeq (bs : List Byte)
  /-- `GROUP.CHK d0, d1, c`. -/
  | groupChk (d0 d1 c : Byte)
  /-- `CMD.FRAME id`. -/
  | cmdFrame (id : BitVec 5)
  /-- `CMD.FRAMEP id, p`. -/
  | cmdFramep (id : BitVec 5) (p : Word16)
  /-- `ALRT.WRITE id, L`. -/
  | alrtWrite (id : BitVec 5) (lim : Word16)
  deriving DecidableEq, Repr

/-- `Y[15:0]` of a response: a command word, a payload or a raw code (R64). -/
def Response.word (r : Response) : Word16 := r.y.extractLsb' 0 16

/-- The expansion of `CRC.SEQ` (R74). -/
def crcSeqRequests (bs : List Byte) : List Instr := .crcInit :: bs.map .crcUpd

/-- The expansion of `GROUP.CHK` (R74). -/
def groupChkRequests (d0 d1 c : Byte) : List Instr := [.crcInit, .crcUpd d0, .crcUpd d1, .crcChk c]

/-- What the host issues next for a macro, given the responses to the macro's requests so far, oldest first; none when it is done. -/
def Pseudo.nextRequest : Pseudo → List Response → Option Instr
  | .crcSeq bs, done => (crcSeqRequests bs)[done.length]?
  | .groupChk d0 d1 c, done => (groupChkRequests d0 d1 c)[done.length]?
  | .cmdFrame id, [] => some (.cmdEnc id)
  | .cmdFrame _, _ :: _ => none
  | .cmdFramep id _, [] => some (.cmdEnc id)
  | .cmdFramep _ p, [w] => some (.framePay w.word p)
  | .cmdFramep _ _, _ :: _ :: _ => none
  | .alrtWrite _ lim, [] => some (.alrtEnc lim)
  | .alrtWrite id _, [_] => some (.cmdEnc id)
  | .alrtWrite _ _, [q, w] => some (.framePay w.word q.word)
  | .alrtWrite _ _, _ :: _ :: _ :: _ => none

/-- The wire bytes the host sends when the macro is done, from its last response (R74): `Y[15:8]` then `Y[7:0]` for CMD.FRAME,
`Y[39:32]` to `Y[7:0]` for the two that end in FRAME.PAY, none for the others. -/
def Pseudo.wireBytesOf : Pseudo → Response → List Byte
  | .crcSeq _, _ => []
  | .groupChk _ _ _, _ => []
  | .cmdFrame _, r => [r.y.extractLsb' 8 8, r.y.extractLsb' 0 8]
  | .cmdFramep _ _, r => frameBytes r
  | .alrtWrite _ _, r => frameBytes r
where
  /-- The five bytes of a write frame in wire order (R45). -/
  frameBytes (r : Response) : List Byte :=
    [r.y.extractLsb' 32 8, r.y.extractLsb' 24 8, r.y.extractLsb' 16 8, r.y.extractLsb' 8 8, r.y.extractLsb' 0 8]

end Sys2Proof.Machine
end

