-- ==== Sys2Proof/Safety.lean ====
section
/-! DEFINITION. What counts as a safe run, and what the host owes (R209, R233, R235). -/

namespace Sys2Proof.Machine

/-- A response the host may rely on: only one with `ERR = NONE` (R209; D5: "A claim must take `ERR = NONE` as a premise"). -/
abbrev Response.trusted (r : Response) : Prop := r.err = .noError

/-- What R201 and R202 say of `Y` when an error is reported: `Y = 0`, but for CRC_MISMATCH, where `Y` is at most the 24 bits of R201. -/
def Response.wf (r : Response) : Bool :=
  match r.err with
  | .noError => true
  | .crcMismatch => decide (r.y.toNat < 2 ^ 24)
  | .illegalOp => decide (r.y = 0#40)
  | .badOperand => decide (r.y = 0#40)
  | .range => decide (r.y = 0#40)

/-- The shapes of R110: at most one payload word, as many response groups as the meaning of the data words has, and not both. -/
def WireCommand.wf (c : WireCommand) : Bool :=
  decide (c.payloadWords ≤ 1) && decide (c.responseGroups = c.data.groups)
  && (decide (c.payloadWords = 0) || decide (c.responseGroups = 0))

/-- The invariant of the machine: the parameters hold what the document fixes, every response delivered has the form of R201 and R202, and
every command word sent has a shape of R110. -/
structure State.Inv (s : State) : Prop where
  rom_wf : s.rom.wf = true
  params_wf : s.params.wf = true
  responses_wf : ∀ r ∈ s.responses, r.wf = true
  wire_wf : ∀ c ∈ s.wire, c.wf = true

/-- An event that no step refuses: a request, a reset, or a wire command word that is a row of the opcode table. -/
def HostEvent.listed : HostEvent → Bool
  | .issue (.req36 _) => true
  | .issue (.wire16 w) => decide (decodeWire w ≠ .unlisted)
  | .reset _ => true

/-- The step goes on. -/
abbrev State.goesOn (s : State) : Prop := ∃ t, step s = .next t

/-- The minimum wait the host owes the sensor after a command, in microseconds (R235); none where the document states none. A duty of
the host: informative, and no step reads it. -/
def minimumWaitMicros : CommandId → Option Nat
  | .softreset => some 1000
  | .brk => some 1000
  | .heaterEnable => some 10
  | .heaterDisable => some 10
  | .readStatus => none
  | .clearStatus => some 10
  | .readSerial => some 1000
  | .measureLow => some 4000
  | .measureMedium => some 6000
  | .measureHigh => some 15000
  | .fetchPeriodicResult => some 0
  | .readAlertHighSet => none
  | .readAlertHighClear => none
  | .readAlertLowSet => none
  | .readAlertLowClear => none
  | .writeAlertHighSet => none
  | .writeAlertHighClear => none
  | .writeAlertLowSet => none
  | .writeAlertLowClear => none

end Sys2Proof.Machine
end

