-- ==== Sys2Proof/Certificates/Slice0/Obligations.lean ====
section
/-! DEFINITION. The statements for the provers. A statement's docstring names the rules it formalises, and says where it rests on a choice
of the model. -/

namespace Sys2Proof.Spec

/-- `s` with the request `{op, a}` issued before everything that is pending (R60). -/
abbrev issued (s : Machine.State) (op : BitVec 4) (a : OperandBus) : Machine.State :=
  { s with inbox := .issue (.req36 (op ++ a)) :: s.inbox }

/-- `s` with one more response delivered. -/
abbrev answered (s : Machine.State) (y : ResultBus) (e : ErrCode) : Machine.State :=
  { s with responses := { y := y, err := e } :: s.responses }

/-- The reserved operand bits of each operation, as R70 lists them. -/
def reservedBits : List OperandBus :=
  [0xFFFFFFE0#32, 0xFFFFFFC8#32, 0x00000000#32, 0xFFFF0000#32, 0xFFFFFFFF#32, 0xFFFFFF00#32, 0xFFFFFFFF#32, 0xFFFFFF00#32,
   0xFFFF0000#32, 0xFF000000#32, 0xFFFF0000#32, 0x00000000#32, 0xFFFF0000#32, 0xFFFF0000#32]

/-- The operation of each code (R63), its fields read where R64 lays them. -/
def operations (a : OperandBus) : List Instr :=
  [.cmdEnc (a.extractLsb' 0 5), .cmdPer (a.extractLsb' 0 3) (a.extractLsb' 4 2), .framePay (a.extractLsb' 16 16) (a.extractLsb' 0 16),
   .statDec (a.extractLsb' 0 16), .crcInit, .crcUpd (a.extractLsb' 0 8), .crcRd, .crcChk (a.extractLsb' 0 8),
   .crcWord (a.extractLsb' 0 16), .wordChk (a.extractLsb' 16 8) (a.extractLsb' 8 8) (a.extractLsb' 0 8),
   .cvtR2c (a.extractLsb' 0 16), .cvtC2r a, .alrtDec (a.extractLsb' 8 8) (a.extractLsb' 0 8), .alrtEnc (a.extractLsb' 0 16)]

/-- The payload words, the response groups and the meaning of the data words R110 gives command ids 0 to 18. -/
def commandShapes : List (Nat × Nat × Machine.DataMeaning) :=
  [(0, 0, .nothing), (0, 0, .nothing), (0, 0, .nothing), (0, 0, .nothing), (0, 1, .statusWord), (0, 0, .nothing),
   (0, 2, .serialNumber), (0, 1, .rawCode), (0, 1, .rawCode), (0, 1, .rawCode), (0, 1, .rawCode), (0, 1, .alertLimit),
   (0, 1, .alertLimit), (0, 1, .alertLimit), (0, 1, .alertLimit), (1, 0, .nothing), (1, 0, .nothing), (1, 0, .nothing),
   (1, 0, .nothing)]

/-- The layout R107 decides: each bit of the limit value stands at its own place in `{b0, b1}`. -/
abbrev bigEndian (layout : Machine.AlertLayout) : Prop := ∀ k : Fin 16, layout[k] = k

/-- CRC-8 one message bit at a time: the register shifts left, and the polynomial is added when the bit shifted out differs from the
message bit. The bit-serial division R140 describes. -/
def crcBitSerial (poly c : Byte) : List Bool → Byte
  | [] => c
  | b :: bs => crcBitSerial poly (if c.getLsbD 7 != b then (c <<< 1) ^^^ poly else c <<< 1) bs

/-- The bits of a byte, most significant first. -/
def bitsOf (b : Byte) : List Bool :=
  [b.getLsbD 7, b.getLsbD 6, b.getLsbD 5, b.getLsbD 4, b.getLsbD 3, b.getLsbD 2, b.getLsbD 1, b.getLsbD 0]

/-- The requests as events of the interface, in order. -/
def events (is : List Instr) : List Machine.HostEvent := is.map (fun i => .issue (encode i))

end Sys2Proof.Spec

open Sys2Proof Sys2Proof.Machine

/-! ## Encoding -/

/-- Words written out from R60, R63, R64 and the opcode table decode to the operations and commands they stand for. The last clause, that
the wire word 0x2737 is CMD_PERIODIC_10MPS_HIGH, rests on a reference value of R101 that the spec marks as general knowledge (D14) and
log 4 marks PRESUMED; 0x30A2 is the document's own (R100). -/
def Obligations.HandWrittenWordsDecode : Prop :=
  decode (.req36 0x000000000#36) = .instr (.cmdEnc 0#5)
  ∧ decode (.req36 0x100000024#36) = .instr (.cmdPer 4#3 2#2)
  ∧ decode (.req36 0x2611D3E80#36) = .instr (.framePay 0x611D#16 0x3E80#16)
  ∧ decode (.req36 0x5000000BE#36) = .instr (.crcUpd 0xBE#8)
  ∧ decode (.req36 0x900666693#36) = .instr (.wordChk 0x66#8 0x66#8 0x93#8)
  ∧ decode (.req36 0xB41C80000#36) = .instr (.cvtC2r 0x41C80000#32)
  ∧ decode (.req36 0xC00003E80#36) = .instr (.alrtDec 0x3E#8 0x80#8)
  ∧ decode (.wire16 0x30A2#16) = .instr .cmdSoftreset
  ∧ decode (.wire16 0x2737#16) = .instr .cmdPeriodic10MpsHigh

/-- R64, R73, R100, R101: decoding the word of a well-formed instruction gives the instruction back, whatever its operands. The words of the
command rows are the opcode table's, most of them reference values (log 4). -/
def Obligations.DecodeOfEncodeIsTheInstruction : Prop :=
  ∀ i : Instr, i.wf = true → decode (encode i) = .instr i

/-- R65, R67, R71: a word that decodes to an instruction is that instruction's only word, and the instruction is well-formed. The words
of the command rows are the opcode table's, most of them reference values (log 4). -/
def Obligations.DecodedWordIsTheEncoding : Prop :=
  ∀ (w : InstrWord) (i : Instr), decode w = .instr i → i.wf = true ∧ encode i = w

/-- R70: the decoder's tests in their order, and the operation of R63 with the fields of R64 when none fires. -/
def Obligations.RequestDecoderTestsInOrder : Prop :=
  ∀ (op : BitVec 4) (a : OperandBus),
    decode (.req36 (op ++ a)) =
      if op = 0xE#4 ∨ op = 0xF#4 then .raised .illegalOp
      else if a &&& Spec.reservedBits.getD op.toNat 0#32 ≠ 0#32 then .raised .badOperand
      else if op = 0x0#4 ∧ 18 < (a.extractLsb' 0 5).toNat then .raised .badOperand
      else if op = 0x1#4 ∧ (4 < (a.extractLsb' 0 3).toNat ∨ a.extractLsb' 4 2 = 3#2) then .raised .badOperand
      else ((Spec.operations a)[op.toNat]?).elim (.raised .illegalOp) .instr

/-! ## The step -/

/-- R49: when the oldest pending event is a word that decodes to an instruction, the step is `exec` of it, with that event taken. -/
def Obligations.StepRunsTheDecodedInstruction : Prop :=
  ∀ (s : State) (w : InstrWord) (rest : List HostEvent) (i : Instr),
    s.inbox = .issue w :: rest → decode w = .instr i → step s = exec i { s with inbox := rest }

/-- R65, R66, R202: a request the decoder refuses is answered with `Y = 0` and the decoder's code, and nothing else changes. -/
def Obligations.StepAnswersDecoderErrors : Prop :=
  ∀ (s : State) (w : InstrWord) (rest : List HostEvent) (e : ErrCode),
    s.inbox = .issue w :: rest → decode w = .raised e → step s = .next (Spec.answered { s with inbox := rest } 0#40 e)

/-- R66: ILLEGAL_OP, "whatever A holds", and no effect. -/
def Obligations.ReservedOperationsAreIllegal : Prop :=
  ∀ (s : State) (a : OperandBus),
    step (Spec.issued s 0xE#4 a) = .next (Spec.answered s 0#40 .illegalOp)
    ∧ step (Spec.issued s 0xF#4 a) = .next (Spec.answered s 0#40 .illegalOp)

/-- R25: with no event pending nothing changes. Taking a step to be a wait is the model's choice (log 6). -/
def Obligations.StepWaitsWhenNothingIsPending : Prop :=
  ∀ s : State, s.inbox = [] → step s = .next s

/-- R26, R230: after reset `CRC_ACC` is 0xFF, the checksum of the empty sequence, nothing is in progress and nothing pending, and the
same, with its own `CRC_INIT`, of a block built with any other parameters (R5). A reset event writes `CRC_INIT` to `CRC_ACC` from any
state, gives no response and leaves the tables and parameters (R230). That reset is an event, and that it leaves the events still
pending, the responses delivered and the wire record as they are, is the model's choice (log 7, DEDUCED; log 2, DESIGN CHOICE). -/
def Obligations.ResetPutsTheAccumulatorAtCrcInit : Prop :=
  (State.reset.crcAcc = 0xFF#8 ∧ State.reset.crcAcc = crc8 State.reset.params []
    ∧ State.reset.inbox = [] ∧ State.reset.responses = [])
  ∧ (∀ (t : Rom) (p : Params), (State.built t p).crcAcc = p.crcInit ∧ (State.built t p).crcAcc = crc8 p []
      ∧ (State.built t p).rom = t ∧ (State.built t p).params = p ∧ (State.built t p).inbox = [] ∧ (State.built t p).responses = [])
  ∧ ∀ (s : State) (inProgress : Option Request),
      step { s with inbox := .reset inProgress :: s.inbox } = .next { s with crcAcc := s.params.crcInit }

/-- R61, R70: "every 36-bit word gets a response", exactly one, and only `CRC_ACC` may change beside it. -/
def Obligations.EveryRequestGetsExactlyOneResponse : Prop :=
  ∀ (s : State) (r : Request), ∃ (acc : Byte) (resp : Response),
    step { s with inbox := .issue (.req36 r) :: s.inbox } =
      .next { s with crcAcc := acc, responses := resp :: s.responses }

/-- R49, R234: requests pending are answered one a step until none is left, and none stops the machine. That a step answers the request
it takes, so that fairness is built in, is the model's choice (log 10, DESIGN CHOICE). -/
def Obligations.AllPendingRequestsAreAnswered : Prop :=
  ∀ (s : State) (rs : List Request), s.inbox = rs.map (fun r => .issue (.req36 r)) →
    ∃ t : State, Sys2Proof.core.run rs.length s = .next t ∧ t.inbox = [] ∧ t.rom = s.rom ∧ t.params = s.params ∧ t.wire = s.wire
      ∧ ∃ new : List Response, new.length = rs.length ∧ t.responses = new ++ s.responses

/-- R200: no step faults, and a step is refused only for a wire word that is no row of the opcode table (the refusal is the model's,
log 5). -/
def Obligations.ListedEventsNeverStopTheMachine : Prop :=
  ∀ s : State, (∀ (e : HostEvent) (rest : List HostEvent), s.inbox = e :: rest → e.listed = true) → s.goesOn

/-- The model's refusal (log 5): a wire word that is no row of the opcode table. -/
def Obligations.UnlistedWireWordIsRefused : Prop :=
  ∀ (s : State) (w : Word16) (rest : List HostEvent), s.inbox = .issue (.wire16 w) :: rest →
    (∀ i : Instr, encode i ≠ .wire16 w) → step s = .refused (.unlistedWireCommand w)

/-! ## Errors, whole-machine rules and invariants -/

/-- R202: ILLEGAL_OP, BAD_OPERAND and RANGE answer `Y = 0`; CRC_MISMATCH answers the values of R201; no error writes `CRC_ACC`, a table or
a parameter. -/
def Obligations.ErrorsWriteNoState : Prop :=
  ∀ (s t : State) (r : Request) (resp : Response),
    step { s with inbox := .issue (.req36 r) :: s.inbox } = .next t → t.responses = resp :: s.responses → resp.err ≠ .noError →
      t.crcAcc = s.crcAcc ∧ t.rom = s.rom ∧ t.params = s.params
      ∧ (resp.err ≠ .crcMismatch → resp.y = 0#40)
      ∧ (resp.err = .crcMismatch →
          (∃ c, decode (.req36 r) = .instr (.crcChk c) ∧ c ≠ s.crcAcc ∧ resp.y = s.crcAcc.setWidth 40)
          ∨ ∃ d0 d1 c, decode (.req36 r) = .instr (.wordChk d0 d1 c) ∧ c ≠ crc8 s.params [d0, d1]
              ∧ resp.y.extractLsb' 0 16 = d0 ++ d1 ∧ resp.y.extractLsb' 16 8 = crc8 s.params [d0, d1]
              ∧ resp.y.extractLsb' 24 16 = 0#16)

/-- R62: the codes of `ERR`, and none of them is 5, 6 or 7. -/
def Obligations.ErrorCodesAreNumbered : Prop :=
  ErrCode.noError.bits = 0#3 ∧ ErrCode.crcMismatch.bits = 1#3 ∧ ErrCode.illegalOp.bits = 2#3 ∧ ErrCode.badOperand.bits = 3#3
  ∧ ErrCode.range.bits = 4#3 ∧ ∀ e : ErrCode, e.bits ≠ 5#3 ∧ e.bits ≠ 6#3 ∧ e.bits ≠ 7#3

/-- R21: `CRC_ACC` is written only by CRC.INIT and CRC.UPD and read only by CRC.UPD, CRC.RD and CRC.CHK, and an error leaves it. That an
operation does not read it is said by running the operation with any other value in it: CRC.INIT then leaves `CRC_INIT`, any other leaves
that value. -/
def Obligations.AccumulatorHasItsReadersAndWriters : Prop :=
  ∀ (i : Instr) (s t : State), exec i s = .next t →
    (i ≠ .crcInit → (∀ b, i ≠ .crcUpd b) → t.crcAcc = s.crcAcc)
    ∧ ((∀ b, i ≠ .crcUpd b) → i ≠ .crcRd → (∀ c, i ≠ .crcChk c) → ∀ a : Byte, ∃ t' : State,
        exec i { s with crcAcc := a } = .next t' ∧ t'.responses = t.responses ∧ t'.wire = t.wire ∧ t'.rom = t.rom
        ∧ t'.params = t.params ∧ t'.inbox = t.inbox ∧ t'.crcAcc = (if i = .crcInit then s.params.crcInit else a))
    ∧ (∀ r : Response, t.responses = r :: s.responses → r.err ≠ .noError → t.crcAcc = s.crcAcc)

/-- R24, R61, R25: the frame of every instruction. Tables, parameters and pending events are unchanged; an operation delivers one response
and sends nothing; a command word sends one record and changes nothing else (its meaning is the model's choice, log 3). -/
def Obligations.InstructionsKeepTheirFrame : Prop :=
  ∀ (i : Instr) (s t : State), exec i s = .next t →
    t.rom = s.rom ∧ t.params = s.params ∧ t.inbox = s.inbox
    ∧ (∀ r : Request, encode i = .req36 r → t.wire = s.wire ∧ ∃ resp, t.responses = resp :: s.responses)
    ∧ (∀ w : Word16, encode i = .wire16 w → t.crcAcc = s.crcAcc ∧ t.responses = s.responses ∧ ∃ c, t.wire = c :: s.wire)

/-- R24, R5: no step, reset included, changes a table or another parameter of the block: "fixed when the block is built". -/
def Obligations.NoStepChangesTheTables : Prop :=
  ∀ s t : State, step s = .next t → t.rom = s.rom ∧ t.params = s.params

/-- R22, R205: no instruction's effect depends on the responses given or the commands sent before. -/
def Obligations.PastResponsesAreNeverRead : Prop :=
  ∀ (i : Instr) (s t : State) (l : List Response) (ws : List WireCommand), exec i s = .next t →
    ∃ t' : State, exec i { s with responses := l, wire := ws } = .next t' ∧ t'.crcAcc = t.crcAcc
      ∧ (∀ r, t.responses = r :: s.responses → t'.responses = r :: l)
      ∧ (∀ c, t.wire = c :: s.wire → t'.wire = c :: ws)

/-- R48: every operation but CRC.UPD is idempotent: a second one leaves the same `CRC_ACC` and answers the same. CRC.UPD is not. -/
def Obligations.OnlyCrcUpdIsNotIdempotent : Prop :=
  (∀ (i : Instr) (r : Request) (s t : State), encode i = .req36 r → (∀ b, i ≠ .crcUpd b) → exec i s = .next t →
    ∃ u : State, exec i t = .next u ∧ u.crcAcc = t.crcAcc ∧ ∀ resp, t.responses = resp :: s.responses → u.responses = resp :: t.responses)
  ∧ ∃ (b : Byte) (s t u : State), exec (.crcUpd b) s = .next t ∧ exec (.crcUpd b) t = .next u ∧ u.crcAcc ≠ t.crcAcc

/-- R5, R100, R101, R105, R202, R110: every step keeps the invariant: the parameters hold what the document fixes, every response has the
form of R201 and R202, every command sent a shape of R110. -/
def Obligations.EveryStepKeepsTheInvariant : Prop :=
  ∀ s t : State, s.Inv → step s = .next t → t.Inv

/-- The invariant holds after reset, of the reference tables (log 4) and the parameters of this hardware (R5). -/
def Obligations.ResetMeetsTheInvariant : Prop := State.reset.Inv

/-! ## The checksum engine -/

/-- R141: the byte step, for every polynomial, and the one of this hardware is 0x31: XOR, then eight rounds; it depends only on `c ^ b`. -/
def Obligations.CrcStepIsEightRounds : Prop :=
  (∀ poly c b : Byte,
    crcStep poly c b = (fun x : Byte => if x.getLsbD 7 then (x <<< 1) ^^^ poly else x <<< 1)^[8] (c ^^^ b)
    ∧ crcStep poly c b = crcStep poly 0#8 (c ^^^ b))
  ∧ State.reset.params.crcPoly = 0x31#8

/-- R142: `crc8` is the left fold of the byte step from `CRC_INIT`, for every polynomial and initial value, and those of this hardware are
0x31 and 0xFF. -/
def Obligations.CrcOfASequenceIsTheFold : Prop :=
  (∀ p : Params, crc8 p [] = p.crcInit ∧ ∀ (bs : List Byte) (b : Byte), crc8 p (bs ++ [b]) = crcStep p.crcPoly (crc8 p bs) b)
  ∧ crc8 State.reset.params [] = 0xFF#8 ∧ State.reset.params.crcPoly = 0x31#8

/-- R140: "Bits are processed most significant first": the byte-serial checksum is the bit-serial division by the polynomial, from the
initial value, for every such pair; those of this hardware are 0x31 and 0xFF. -/
def Obligations.CrcIsBitSerialDivision : Prop :=
  (∀ (p : Params) (bs : List Byte), crc8 p bs = Spec.crcBitSerial p.crcPoly p.crcInit (bs.flatMap Spec.bitsOf))
  ∧ State.reset.params.crcPoly = 0x31#8 ∧ State.reset.params.crcInit = 0xFF#8

/-- R150: the residue law, for every polynomial, and its form for one group, for every polynomial with an x^0 term, as 0x31 has. -/
def Obligations.ResidueOfACheckedSequenceIsZero : Prop :=
  (∀ (p : Params) (bs : List Byte), crc8 p (bs ++ [crc8 p bs]) = 0#8)
  ∧ (∀ (p : Params) (d0 d1 c : Byte), p.crcPoly.getLsbD 0 = true → (c = crc8 p [d0, d1] ↔ crc8 p [d0, d1, c] = 0#8))
  ∧ State.reset.params.crcPoly.getLsbD 0 = true

/-- R143, from the raw request, for every `CRC_INIT`; the one of this hardware is 0xFF. -/
def Obligations.CrcInitRequest : Prop :=
  (∀ (s : State) (a : OperandBus), step (Spec.issued s 0x4#4 a) = .next (
    if a = 0#32 then Spec.answered { s with crcAcc := s.params.crcInit } (s.params.crcInit.setWidth 40) .noError
    else Spec.answered s 0#40 .badOperand))
  ∧ State.reset.params.crcInit = 0xFF#8

/-- R144, from the raw request. -/
def Obligations.CrcUpdRequest : Prop :=
  ∀ (s : State) (a : OperandBus), step (Spec.issued s 0x5#4 a) = .next (
    if a &&& 0xFFFFFF00#32 = 0#32 then
      Spec.answered { s with crcAcc := crcStep s.params.crcPoly s.crcAcc (a.extractLsb' 0 8) }
        ((crcStep s.params.crcPoly s.crcAcc (a.extractLsb' 0 8)).setWidth 40) .noError
    else Spec.answered s 0#40 .badOperand)

/-- R145, from the raw request. -/
def Obligations.CrcRdRequest : Prop :=
  ∀ (s : State) (a : OperandBus), step (Spec.issued s 0x6#4 a) = .next (
    if a = 0#32 then Spec.answered s (s.crcAcc.setWidth 40) .noError else Spec.answered s 0#40 .badOperand)

/-- R146, from the raw request; and feeding the byte instead gives the same verdict, with every polynomial that has an x^0 term, as the
0x31 of this hardware has. -/
def Obligations.CrcChkRequest : Prop :=
  (∀ (s : State) (a : OperandBus),
    step (Spec.issued s 0x7#4 a) = .next (
      if a &&& 0xFFFFFF00#32 ≠ 0#32 then Spec.answered s 0#40 .badOperand
      else if s.crcAcc = a.extractLsb' 0 8 then Spec.answered s (s.crcAcc.setWidth 40) .noError
      else Spec.answered s (s.crcAcc.setWidth 40) .crcMismatch)
    ∧ (s.params.crcPoly.getLsbD 0 = true →
        (s.crcAcc = a.extractLsb' 0 8 ↔ crcStep s.params.crcPoly s.crcAcc (a.extractLsb' 0 8) = 0#8)))
  ∧ State.reset.params.crcPoly.getLsbD 0 = true

/-- R147, from the raw request. -/
def Obligations.CrcWordRequest : Prop :=
  ∀ (s : State) (a : OperandBus), step (Spec.issued s 0x8#4 a) = .next (
    if a &&& 0xFFFF0000#32 = 0#32 then
      Spec.answered s ((crc8 s.params [a.extractLsb' 8 8, a.extractLsb' 0 8]).setWidth 40) .noError
    else Spec.answered s 0#40 .badOperand)

/-- R148, from the raw request. -/
def Obligations.WordChkRequest : Prop :=
  ∀ (s : State) (a : OperandBus),
    step (Spec.issued s 0x9#4 a) = .next (
      if a &&& 0xFF000000#32 ≠ 0#32 then Spec.answered s 0#40 .badOperand
      else if crc8 s.params [a.extractLsb' 16 8, a.extractLsb' 8 8] = a.extractLsb' 0 8 then
        Spec.answered s ((crc8 s.params [a.extractLsb' 16 8, a.extractLsb' 8 8] ++ a.extractLsb' 8 16).setWidth 40) .noError
      else Spec.answered s ((crc8 s.params [a.extractLsb' 16 8, a.extractLsb' 8 8] ++ a.extractLsb' 8 16).setWidth 40) .crcMismatch)

/-- R74, R144: the requests of CRC.SEQ, one a step from any state, leave `CRC_ACC` = `crc8` of the bytes. -/
def Obligations.StreamingComputesTheChecksum : Prop :=
  ∀ (s : State) (bs : List Byte) (rest : List HostEvent), s.inbox = Spec.events (crcSeqRequests bs) ++ rest →
    ∃ t : State, Sys2Proof.core.run (bs.length + 1) s = .next t ∧ t.crcAcc = crc8 s.params bs ∧ t.inbox = rest ∧ t.rom = s.rom
      ∧ t.params = s.params ∧ t.wire = s.wire ∧ ∃ old, t.responses = { y := (crc8 s.params bs).setWidth 40, err := .noError } :: old

/-- R74: GROUP.CHK has the ERR of WORD.CHK on the same bytes and leaves `CRC_ACC` = `crc8([d0, d1])`. -/
def Obligations.GroupChkAgreesWithWordChk : Prop :=
  ∀ (s : State) (d0 d1 c : Byte) (rest : List HostEvent), s.inbox = Spec.events (groupChkRequests d0 d1 c) ++ rest →
    ∃ (t u : State) (r q : Response) (old : List Response),
      Sys2Proof.core.run 4 s = .next t ∧ t.crcAcc = crc8 s.params [d0, d1] ∧ t.inbox = rest ∧ t.responses = r :: old
      ∧ exec (.wordChk d0 d1 c) s = .next u ∧ u.responses = q :: s.responses ∧ r.err = q.err

/-- R149: a frame of `g` groups is valid exactly when it has `3g` bytes and WORD.CHK answers NONE for each of its groups. R110, the
meaning of the data words: the response to a command is read only if its frame is valid; its data word is then a status word, which
STAT.DEC decodes, a raw code, which CVT.R2C takes, or an alert-limit value, which ALRT.DEC decodes, and two data words are the serial number
`{w0, w1}`, as the command says. That reading a response is an operation
of the model, which answers nothing for an invalid frame, is the model's choice (log 3, DESIGN CHOICE): C6 and I5 leave the value of a
failed read to the host. -/
def Obligations.FrameIsValidWhenEveryGroupIs : Prop :=
  (∀ (s : State) (g : Nat) (bs : List Byte), frameValid s.params g bs = true ↔
    bs.length = 3 * g ∧ ∀ j, j < g → ∃ y : ResultBus,
      exec (.wordChk (bs.getD (3 * j) 0#8) (bs.getD (3 * j + 1) 0#8) (bs.getD (3 * j + 2) 0#8)) s
        = .next (Spec.answered s y .noError))
  ∧ (∀ (s : State) (c : WireCommand) (bs : List Byte), frameValid s.params c.responseGroups bs = false → s.readResponse c bs = none)
  ∧ (∀ (s : State) (c : WireCommand) (d0 d1 e : Byte), c.responseGroups = 1 → frameValid s.params 1 [d0, d1, e] = true →
      (c.data = .statusWord → ∃ flags : BitVec 6, s.readResponse c [d0, d1, e] = some (.status flags)
        ∧ c.data.request (d0 ++ d1) = some (.statDec (d0 ++ d1))
        ∧ exec (.statDec (d0 ++ d1)) s = .next (Spec.answered s (flags.setWidth 40) .noError))
      ∧ (c.data = .rawCode → s.readResponse c [d0, d1, e] = some (.rawCode (d0 ++ d1))
        ∧ c.data.request (d0 ++ d1) = some (.cvtR2c (d0 ++ d1)))
      ∧ (c.data = .alertLimit → ∃ limit : Word16, s.readResponse c [d0, d1, e] = some (.alertLimit limit)
        ∧ c.data.request (d0 ++ d1) = some (.alrtDec d0 d1)
        ∧ exec (.alrtDec d0 d1) s = .next (Spec.answered s (limit.setWidth 40) .noError)))
  ∧ ∀ (s : State) (c : WireCommand) (d0 d1 e d2 d3 e' : Byte), c.responseGroups = 2 → c.data = .serialNumber →
      frameValid s.params 2 [d0, d1, e, d2, d3, e'] = true →
      s.readResponse c [d0, d1, e, d2, d3, e'] = some (.serial ((d0 ++ d1) ++ (d2 ++ d3)))

/-- R143 to R148: each checksum operation completes, with its result. -/
def Obligations.ChecksumOperationsComplete : Prop :=
  ∀ (s : State) (b c d0 d1 : Byte) (d : Word16),
    exec .crcInit s = .next (Spec.answered { s with crcAcc := s.params.crcInit } (s.params.crcInit.setWidth 40) .noError)
    ∧ exec (.crcUpd b) s = .next (Spec.answered { s with crcAcc := crcStep s.params.crcPoly s.crcAcc b }
        ((crcStep s.params.crcPoly s.crcAcc b).setWidth 40) .noError)
    ∧ exec .crcRd s = .next (Spec.answered s (s.crcAcc.setWidth 40) .noError)
    ∧ exec (.crcChk c) s = .next (Spec.answered s (s.crcAcc.setWidth 40) (if s.crcAcc = c then .noError else .crcMismatch))
    ∧ exec (.crcWord d) s = .next (Spec.answered s ((crc8 s.params [d.extractLsb' 8 8, d.extractLsb' 0 8]).setWidth 40) .noError)
    ∧ exec (.wordChk d0 d1 c) s = .next (Spec.answered s ((crc8 s.params [d0, d1] ++ (d0 ++ d1)).setWidth 40)
        (if crc8 s.params [d0, d1] = c then .noError else .crcMismatch))

/-! ## The command codec -/

/-- R102, from the raw request, for any contents of `CMD_WORD`. -/
def Obligations.CmdEncRequest : Prop :=
  ∀ (s : State) (a : OperandBus), step (Spec.issued s 0x0#4 a) = .next (
    if h : a &&& 0xFFFFFFE0#32 = 0#32 ∧ (a.extractLsb' 0 5).toNat ≤ 18 then
      Spec.answered s ((s.rom.cmdWord[(a.extractLsb' 0 5).toNat]'(by omega)).setWidth 40) .noError
    else Spec.answered s 0#40 .badOperand)

/-- R103, from the raw request, for any contents of `PER_HI` and `PER_LO`. -/
def Obligations.CmdPerRequest : Prop :=
  ∀ (s : State) (a : OperandBus), step (Spec.issued s 0x1#4 a) = .next (
    if h : a &&& 0xFFFFFFC8#32 = 0#32 ∧ (a.extractLsb' 0 3).toNat ≤ 4 ∧ (a.extractLsb' 4 2).toNat ≤ 2 then
      Spec.answered s ((s.rom.perHi[(a.extractLsb' 0 3).toNat]'(by omega)
        ++ (s.rom.perLo[(a.extractLsb' 0 3).toNat]'(by omega))[(a.extractLsb' 4 2).toNat]'(by omega)).setWidth 40) .noError
    else Spec.answered s 0#40 .badOperand)

/-- R103: "all 15 legal pairs give distinct words", where the suffixes are pairwise distinct as the document requires (R101, log 4). -/
def Obligations.PeriodicWordsAreDistinct : Prop :=
  ∀ (s t t' : State) (m m' : BitVec 3) (r r' : BitVec 2) (y y' : ResultBus), s.rom.wf = true →
    exec (.cmdPer m r) s = .next t → t.responses = { y := y, err := .noError } :: s.responses →
    exec (.cmdPer m' r') s = .next t' → t'.responses = { y := y', err := .noError } :: s.responses →
    y = y' → m = m' ∧ r = r'

/-- R104, from the raw request: every operand is legal, and the five wire bytes are in the lanes of R45. -/
def Obligations.FramePayRequest : Prop :=
  ∀ (s : State) (a : OperandBus), step (Spec.issued s 0x2#4 a) = .next (
    Spec.answered s (a ++ crc8 s.params [a.extractLsb' 8 8, a.extractLsb' 0 8]) .noError)

/-- R104, R148: the payload and CRC bytes of a frame FRAME.PAY builds pass WORD.CHK, which gives the payload back. -/
def Obligations.FramePayloadPassesWordChk : Prop :=
  ∀ (s t : State) (cmd p : Word16) (y : ResultBus), exec (.framePay cmd p) s = .next t →
    t.responses = { y := y, err := .noError } :: s.responses →
    ∃ q : ResultBus, exec (.wordChk (y.extractLsb' 16 8) (y.extractLsb' 8 8) (y.extractLsb' 0 8)) t = .next (Spec.answered t q .noError)
      ∧ q.extractLsb' 0 16 = p

/-- R106, from the raw request, for any contents of `STATUS_BIT`. -/
def Obligations.StatDecRequest : Prop :=
  ∀ (s : State) (a : OperandBus),
    (a &&& 0xFFFF0000#32 ≠ 0#32 → step (Spec.issued s 0x3#4 a) = .next (Spec.answered s 0#40 .badOperand))
    ∧ (a &&& 0xFFFF0000#32 = 0#32 → ∃ y : ResultBus, step (Spec.issued s 0x3#4 a) = .next (Spec.answered s y .noError)
        ∧ (∀ k : Fin 6, y.getLsbD k = a.getLsbD s.rom.statusBit[k]) ∧ y.toNat < 64)

/-- R105 with the document's two test properties: only bit 0 set is checksumError alone, only bit 15 set is alertPending alone, whatever
the four open positions are. -/
def Obligations.DocumentedStatusBitsStandAlone : Prop :=
  ∀ s : State, s.rom.wf = true →
    exec (.statDec 0x0001#16) s = .next (Spec.answered s 0x01#40 .noError)
    ∧ exec (.statDec 0x8000#16) s = .next (Spec.answered s 0x10#40 .noError)

/-- R108, from the raw request, for every `ALERT_LAYOUT`: bit `k` of the limit value is the operand bit the layout names, which under the
big-endian layout R107 decides, the one of this hardware, is the identity on `A[15:0]`; and the round trip with R109, for every layout
that keeps every bit. That a layout is a placement of the sixteen bits, which the clauses for every layout rest on, is the model's choice
(log 14, DESIGN CHOICE). -/
def Obligations.AlrtDecRequest : Prop :=
  (∀ (s : State) (a : OperandBus),
    (a &&& 0xFFFF0000#32 ≠ 0#32 → step (Spec.issued s 0xC#4 a) = .next (Spec.answered s 0#40 .badOperand))
    ∧ (a &&& 0xFFFF0000#32 = 0#32 → ∃ limit : Word16,
        step (Spec.issued s 0xC#4 a) = .next (Spec.answered s (limit.setWidth 40) .noError)
        ∧ (∀ k : Fin 16, limit.getLsbD k = a.getLsbD s.params.alertLayout[k])
        ∧ (Spec.bigEndian s.params.alertLayout → limit.setWidth 40 = a.setWidth 40)))
  ∧ (∀ (layout : AlertLayout) (limit : Word16), layout.toList.Nodup →
      decodeAlert layout (encodeAlert layout limit).1 (encodeAlert layout limit).2 = limit)
  ∧ Spec.bigEndian State.reset.params.alertLayout

/-- R109, from the raw request, for every `ALERT_LAYOUT`: bit `j` of `{b0, b1}` is set where the layout places a set bit of the limit value,
which under the big-endian layout R107 decides, the one of this hardware, gives `b0 = L[15:8]` and `b1 = L[7:0]`. That a layout is
a placement of the sixteen bits, and the OR of bits placed together, is the model's choice (log 14, DESIGN CHOICE). -/
def Obligations.AlrtEncRequest : Prop :=
  (∀ (s : State) (a : OperandBus),
    (a &&& 0xFFFF0000#32 ≠ 0#32 → step (Spec.issued s 0xD#4 a) = .next (Spec.answered s 0#40 .badOperand))
    ∧ (a &&& 0xFFFF0000#32 = 0#32 → ∃ b0 b1 : Byte,
        step (Spec.issued s 0xD#4 a) = .next (Spec.answered s ((b0 ++ b1).setWidth 40) .noError)
        ∧ (∀ j : Fin 16, (b0 ++ b1).getLsbD j = true ↔ ∃ k : Fin 16, s.params.alertLayout[k] = j ∧ a.getLsbD k = true)
        ∧ (Spec.bigEndian s.params.alertLayout → b0 = a.extractLsb' 8 8 ∧ b1 = a.extractLsb' 0 8)))
  ∧ Spec.bigEndian State.reset.params.alertLayout

/-- R102 to R109: each codec operation completes, with its result, on every operand its enumeration allows; the two alert operations
by the block's `ALERT_LAYOUT`, and with R107's big-endian one by R107's equations. That a layout is a placement of the
sixteen bits is the model's choice (log 14). -/
def Obligations.CodecOperationsComplete : Prop :=
  ∀ (s : State) (id : BitVec 5) (m : BitVec 3) (r : BitVec 2) (cmd p w lim : Word16) (b0 b1 : Byte),
    (∀ h : id.toNat < 19, exec (.cmdEnc id) s = .next (Spec.answered s (s.rom.cmdWord[id.toNat].setWidth 40) .noError))
    ∧ (∀ (h : m.toNat < 5) (h' : r.toNat < 3), exec (.cmdPer m r) s =
        .next (Spec.answered s ((s.rom.perHi[m.toNat] ++ s.rom.perLo[m.toNat][r.toNat]).setWidth 40) .noError))
    ∧ exec (.framePay cmd p) s = .next (Spec.answered s (cmd.extractLsb' 8 8 ++ cmd.extractLsb' 0 8 ++ p.extractLsb' 8 8
        ++ p.extractLsb' 0 8 ++ crc8 s.params [p.extractLsb' 8 8, p.extractLsb' 0 8]) .noError)
    ∧ (∃ y : ResultBus, exec (.statDec w) s = .next (Spec.answered s y .noError)
        ∧ (∀ k : Fin 6, y.getLsbD k = w.getLsbD s.rom.statusBit[k]) ∧ y.toNat < 64)
    ∧ exec (.alrtDec b0 b1) s = .next (Spec.answered s ((decodeAlert s.params.alertLayout b0 b1).setWidth 40) .noError)
    ∧ exec (.alrtEnc lim) s = .next (Spec.answered s
        (((encodeAlert s.params.alertLayout lim).1 ++ (encodeAlert s.params.alertLayout lim).2).setWidth 40) .noError)
    ∧ (Spec.bigEndian s.params.alertLayout →
        decodeAlert s.params.alertLayout b0 b1 = b0 ++ b1
        ∧ encodeAlert s.params.alertLayout lim = (lim.extractLsb' 8 8, lim.extractLsb' 0 8))

/-- R100: with the reference value in its entry of `CMD_WORD` (log 4), the word CMD.ENC answers for a command id decodes, as a wire
command, to the command of that id. -/
def Obligations.CommandWordsDecodeToTheirCommand : Prop :=
  ∀ (c : CommandId) (s : State), s.rom.cmdWord[c.code.toNat]? = referenceCmdWord[c.code.toNat]? →
    ∃ y : ResultBus, exec (.cmdEnc c.code) s = .next (Spec.answered s y .noError)
      ∧ decode (.wire16 (y.extractLsb' 0 16)) = .instr c.instr

/-- R101: with the reference tables (log 4), the word CMD.PER answers for a pair decodes to the sampling command of that pair. -/
def Obligations.PeriodicWordsDecodeToTheirCommand : Prop :=
  ∀ (m : Mps) (r : Repeatability) (s : State), s.rom.perHi = referencePerHi → s.rom.perLo = referencePerLo →
    ∃ y : ResultBus, exec (.cmdPer m.code r.code) s = .next (Spec.answered s y .noError)
      ∧ decode (.wire16 (y.extractLsb' 0 16)) = .instr (periodicInstr m r)

/-- R42, R25, R230, R110: a command word completes: its two bytes go on the wire, most significant first, with R110's row for it: the
payload words written, the response groups read and the meaning of their data words; and nothing else changes. That this is an
instruction's meaning is the model's choice (log 3). -/
def Obligations.CommandWordsReachTheWireOnly : Prop :=
  (∀ (c : CommandId) (s : State), ∃ (w : Word16) (shape : Nat × Nat × DataMeaning),
    encode c.instr = .wire16 w ∧ Spec.commandShapes[c.code.toNat]? = some shape ∧ exec c.instr s =
      .next { s with wire := { byte0 := w.extractLsb' 8 8, byte1 := w.extractLsb' 0 8, payloadWords := shape.1,
                               responseGroups := shape.2.1, data := shape.2.2 } :: s.wire })
  ∧ ∀ (m : Mps) (r : Repeatability) (s : State), ∃ w : Word16, encode (periodicInstr m r) = .wire16 w ∧ exec (periodicInstr m r) s =
      .next { s with wire := { byte0 := w.extractLsb' 8 8, byte1 := w.extractLsb' 0 8, payloadWords := 0, responseGroups := 0,
                               data := .nothing } :: s.wire }

/-- R74: ALRT.WRITE, issued request by request as the responses come, ends with the frame of the command word and the limit's two bytes
under the block's `ALERT_LAYOUT` on the wire, high and low byte under the big-endian layout of R107. That a layout is a placement of the
sixteen bits is the model's choice (log 14). -/
def Obligations.AlertWriteMacroBuildsTheFrame : Prop :=
  ∀ (s : State) (id : BitVec 5) (lim : Word16) (h : id.toNat < 19),
    ∃ (q w f : Response) (t u v : State) (i j k : Instr) (b0 b1 : Byte),
      (Pseudo.alrtWrite id lim).nextRequest [] = some i ∧ exec i s = .next t ∧ t.responses = q :: s.responses
      ∧ (Pseudo.alrtWrite id lim).nextRequest [q] = some j ∧ exec j t = .next u ∧ u.responses = w :: t.responses
      ∧ (Pseudo.alrtWrite id lim).nextRequest [q, w] = some k ∧ exec k u = .next v ∧ v.responses = f :: u.responses
      ∧ (Pseudo.alrtWrite id lim).nextRequest [q, w, f] = none ∧ v.crcAcc = s.crcAcc
      ∧ (Pseudo.alrtWrite id lim).wireBytesOf f =
          [s.rom.cmdWord[id.toNat].extractLsb' 8 8, s.rom.cmdWord[id.toNat].extractLsb' 0 8, b0, b1, crc8 s.params [b0, b1]]
      ∧ (b0, b1) = encodeAlert s.params.alertLayout lim
      ∧ (Spec.bigEndian s.params.alertLayout → b0 = lim.extractLsb' 8 8 ∧ b1 = lim.extractLsb' 0 8)

/-! ## The converter. A finite binary32 value is its number of units of 2^-149. -/

/-- R7: `fl32` rounds a real number (here `num / den` units) to the nearest binary32 value, ties to the pattern with an even last bit, and
to an infinity from the midpoint above the greatest finite value on. -/
def Obligations.RoundingIsToNearestTiesToEven : Prop :=
  ∀ (num : Int) (den : Nat), 0 < den →
    (∀ k : Int, fl32 num den = .finite k →
      (∃ b, f32 b = some (.finite k))
      ∧ (∀ b k', f32 b = some (.finite k') → (num - k * den).natAbs ≤ (num - k' * den).natAbs)
      ∧ (∀ b k', f32 b = some (.finite k') → k' ≠ k → (num - k * den).natAbs = (num - k' * den).natAbs →
          (bits32 (.finite k)).getLsbD 0 = false))
    ∧ ∀ neg : Bool, fl32 num den = .inf neg ↔ (2 ^ 24 * 2 ^ 253 - 2 ^ 252) * den ≤ num.natAbs ∧ neg = decide (num < 0)

/-- R7: `bits32` gives back the pattern of every value but the negative zero, whose sign the model does not keep (log 8). -/
def Obligations.PatternOfAValueIsItsOwn : Prop :=
  ∀ (b : BitVec 32) (x : F32), f32 b = some x → b ≠ 0x80000000#32 → bits32 x = b

/-- R171: CVT.R2C completes: the product is exact, then one rounding for the division and one for the subtraction. -/
def Obligations.CvtR2cRoundsOncePerOperation : Prop :=
  ∀ (s : State) (v : Word16), ∃ k2 k3 : Int,
    fl32 (v.toNat * 175 * 2 ^ 149) 1 = .finite (v.toNat * 175 * 2 ^ 149)
    ∧ fl32 (v.toNat * 175 * 2 ^ 149) 65535 = .finite k2
    ∧ fl32 (k2 - 45 * 2 ^ 149) 1 = .finite k3
    ∧ exec (.cvtR2c v) s = .next (Spec.answered s ((bits32 (.finite k3)).setWidth 40) .noError)

/-- R171, from the raw request: reserved bits refused, else the conversion of the low 16 bits. -/
def Obligations.CvtR2cRequest : Prop :=
  ∀ (s : State) (a : OperandBus),
    (a &&& 0xFFFF0000#32 ≠ 0#32 → step (Spec.issued s 0xA#4 a) = .next (Spec.answered s 0#40 .badOperand))
    ∧ (a &&& 0xFFFF0000#32 = 0#32 → step (Spec.issued s 0xA#4 a) = exec (.cvtR2c (a.extractLsb' 0 16)) s)

/-- R171: the Celsius value is finite, not zero, not subnormal, within [-45, 130], exact at both ends and at 26214, and strictly increasing
in the raw code. -/
def Obligations.CelsiusIsStrictlyIncreasing : Prop :=
  (∀ v : Word16, ∃ k : Int, rawToCelsius v = .finite k ∧ -45 * 2 ^ 149 ≤ k ∧ k ≤ 130 * 2 ^ 149 ∧ 2 ^ 23 ≤ k.natAbs)
  ∧ (∀ (v v' : Word16) (k k' : Int), v < v' → rawToCelsius v = .finite k → rawToCelsius v' = .finite k' → k < k')
  ∧ bits32 (rawToCelsius 0x0000#16) = 0xC2340000#32 ∧ bits32 (rawToCelsius 0xFFFF#16) = 0x43020000#32
  ∧ bits32 (rawToCelsius 0x6666#16) = 0x41C80000#32

/-- R172: CVT.C2R raises RANGE for a NaN and an infinity, and where `s3` is infinite or outside (-1, 65536); else it completes with `s3`
truncated toward zero. -/
def Obligations.CvtC2rTruncatesOrRaisesRange : Prop :=
  ∀ (s : State) (cb : BitVec 32),
    (f32 cb = none → exec (.cvtC2r cb) s = .next (Spec.answered s 0#40 .range))
    ∧ (∀ neg, f32 cb = some (.inf neg) → exec (.cvtC2r cb) s = .next (Spec.answered s 0#40 .range))
    ∧ ∀ k : Int, f32 cb = some (.finite k) → ∃ k1 : Int, fl32 (k + 45 * 2 ^ 149) 1 = .finite k1
        ∧ (∀ neg, fl32 (k1 * 65535) 1 = .inf neg → exec (.cvtC2r cb) s = .next (Spec.answered s 0#40 .range))
        ∧ ∀ k2 : Int, fl32 (k1 * 65535) 1 = .finite k2 → ∃ k3 : Int, fl32 k2 175 = .finite k3
            ∧ (k3 ≤ -2 ^ 149 ∨ 65536 * 2 ^ 149 ≤ k3 → exec (.cvtC2r cb) s = .next (Spec.answered s 0#40 .range))
            ∧ (-2 ^ 149 < k3 → k3 < 65536 * 2 ^ 149 → ∃ raw : Word16,
                exec (.cvtC2r cb) s = .next (Spec.answered s (raw.setWidth 40) .noError)
                ∧ (k3 < 0 → raw = 0#16)
                ∧ (0 ≤ k3 → raw.toNat * 2 ^ 149 ≤ k3 ∧ k3 < (raw.toNat + 1) * 2 ^ 149))

/-- R172: the request has no reserved bit: every operand reaches the conversion. -/
def Obligations.CvtC2rRequest : Prop :=
  ∀ (s : State) (a : OperandBus), step (Spec.issued s 0xB#4 a) = exec (.cvtC2r a) s

/-- R172: the legal inputs are exactly the patterns from +0.0 up to 130.00265... (0x430200AE) and from -0.0 down to -45.00267...
(0xC23402BC); on them CVT.C2R completes, on all others it raises RANGE. -/
def Obligations.LegalCelsiusPatternsFormOneInterval : Prop :=
  ∀ (s : State) (cb : BitVec 32),
    (cb.toNat ≤ 0x430200AE ∨ (0x80000000 ≤ cb.toNat ∧ cb.toNat ≤ 0xC23402BC) →
      ∃ raw : Word16, exec (.cvtC2r cb) s = .next (Spec.answered s (raw.setWidth 40) .noError))
    ∧ (¬ (cb.toNat ≤ 0x430200AE ∨ (0x80000000 ≤ cb.toNat ∧ cb.toNat ≤ 0xC23402BC)) →
      exec (.cvtC2r cb) s = .next (Spec.answered s 0#40 .range))

/-- R172: both zeros and every subnormal give 16851. -/
def Obligations.ZerosAndSubnormalsGiveOneCode : Prop :=
  ∀ (s : State) (cb : BitVec 32), cb.extractLsb' 23 8 = 0#8 →
    exec (.cvtC2r cb) s = .next (Spec.answered s ((16851#16).setWidth 40) .noError)

/-- R173: for every raw code the round trip succeeds and returns the code or one less. -/
def Obligations.RoundTripReturnsTheCodeOrOneLess : Prop :=
  ∀ (s : State) (v : Word16), ∃ (y : ResultBus) (raw : Word16),
    exec (.cvtR2c v) s = .next (Spec.answered s y .noError)
    ∧ exec (.cvtC2r (y.extractLsb' 0 32)) (Spec.answered s y .noError) =
        .next (Spec.answered (Spec.answered s y .noError) (raw.setWidth 40) .noError)
    ∧ (raw = v ∨ raw.toNat + 1 = v.toNat)
end

