-- ==== Sys2Proof/Laws/Decode.lean ====
section
/-! SUPPORT. The laws of the request word (R60): its two parts, and a field zero-extended onto the operand bus. -/

namespace Sys2Proof

@[simp] theorem opField_append (op : BitVec 4) (a : OperandBus) : opField (op ++ a) = op :=
  BitVec.extractLsb'_append_eq_left

@[simp] theorem operandBus_append (op : BitVec 4) (a : OperandBus) : operandBus (op ++ a) = a :=
  BitVec.extractLsb'_append_eq_right

/-- Reading a field back from the low bits of the operand bus. -/
theorem extract_setWidth {n : Nat} (v : BitVec n) (h : n ≤ 32) : ((v.setWidth 32).extractLsb' 0 n) = v := by
  apply BitVec.eq_of_getLsbD_eq
  intro i hi
  have h' : i < 32 := by omega
  simp [hi, h']

end Sys2Proof
end

