-- ==== Sys2Proof/Laws/Operands.lean ====
section
/-! SUPPORT. The laws of the operand forms: bytes and words (R42, R43), the alert layout, the flags, the checksum step and fold, the
verdict. -/

namespace Sys2Proof.Machine

@[simp] theorem highByte_append_lowByte (w : Word16) : highByte w ++ lowByte w = w := by
  apply BitVec.eq_of_getLsbD_eq
  intro i hi
  refine (BitVec.getLsbD_append (x := highByte w) (y := lowByte w)).trans ?_
  by_cases h : i < 8
  · simp [lowByte, h]
  · have e : 8 + (i - 8) = i := by omega
    have l : i - 8 < 8 := by omega
    simp [highByte, h, l, e]

@[simp] theorem highByte_append (a b : Byte) : highByte (a ++ b) = a :=
  BitVec.extractLsb'_append_eq_left

@[simp] theorem lowByte_append (a b : Byte) : lowByte (a ++ b) = b :=
  BitVec.extractLsb'_append_eq_right

@[simp] theorem wordOfBytes_highByte_lowByte (w : Word16) : wordOfBytes (highByte w) (lowByte w) = w :=
  highByte_append_lowByte w

/-- Bit `k` of a decoded limit value. -/
theorem decodeAlert_getLsbD (lay : AlertLayout) (b0 b1 : Byte) (k : Fin 16) :
    (decodeAlert lay b0 b1).getLsbD k = (wordOfBytes b0 b1).getLsbD lay[k] := by
  simp [decodeAlert]

/-- Bit `j` of an encoded limit value is set where a bit placed at `j` is. -/
theorem alertWord_getLsbD (lay : AlertLayout) (lim : Word16) (j : Fin 16) :
    (alertWord lay lim).getLsbD j = true ↔ ∃ k : Fin 16, lay[k] = j ∧ lim.getLsbD k = true := by
  simp [alertWord]

/-- Under a layout that keeps every bit, decoding the encoding of a limit value gives it back. -/
theorem decodeAlert_encodeAlert (lay : AlertLayout) (h : lay.toList.Nodup) (lim : Word16) :
    decodeAlert lay (encodeAlert lay lim).1 (encodeAlert lay lim).2 = lim := by
  have inj : ∀ k k' : Fin 16, lay[k] = lay[k'] → k = k' := by
    intro k k' e
    have hk : lay.toList[k.val]'(by simp) = lay.toList[k'.val]'(by simp) := by simpa using e
    exact Fin.ext ((List.Nodup.getElem_inj_iff h).mp hk)
  apply BitVec.eq_of_getLsbD_eq
  intro i hi
  have e := decodeAlert_getLsbD lay (encodeAlert lay lim).1 (encodeAlert lay lim).2 ⟨i, hi⟩
  simp only [encodeAlert, wordOfBytes_highByte_lowByte] at e
  refine e.trans (Bool.eq_iff_iff.mpr ((alertWord_getLsbD lay lim lay[(⟨i, hi⟩ : Fin 16)]).trans ?_))
  refine ⟨fun ⟨k, hk, hl⟩ => ?_, fun hl => ⟨⟨i, hi⟩, rfl, hl⟩⟩
  obtain rfl := inj k ⟨i, hi⟩ hk
  exact hl

/-- The layout of this hardware is big-endian (R107): each bit stands at its own place. -/
theorem alertLayout_getElem (k : Fin 16) : Config.alertLayout[k] = k := by
  revert k; decide

/-- Under a big-endian layout (R107) decoding is `{b0, b1}`. -/
theorem decodeAlert_bigEndian (lay : AlertLayout) (h : ∀ k : Fin 16, lay[k] = k) (b0 b1 : Byte) :
    decodeAlert lay b0 b1 = wordOfBytes b0 b1 := by
  apply BitVec.eq_of_getLsbD_eq
  intro i hi
  refine (decodeAlert_getLsbD lay b0 b1 ⟨i, hi⟩).trans ?_
  rw [h ⟨i, hi⟩]

/-- Under a big-endian layout (R107) the wire bytes are those of the limit value. -/
theorem alertWord_bigEndian (lay : AlertLayout) (h : ∀ k : Fin 16, lay[k] = k) (lim : Word16) : alertWord lay lim = lim := by
  apply BitVec.eq_of_getLsbD_eq
  intro i hi
  refine Bool.eq_iff_iff.mpr ((alertWord_getLsbD lay lim ⟨i, hi⟩).trans
    ⟨fun ⟨k, hk, hl⟩ => ?_, fun hl => ⟨⟨i, hi⟩, h _, hl⟩⟩)
  obtain rfl : k = ⟨i, hi⟩ := (h k).symm.trans hk
  exact hl

/-- Six bits put together, read back one by one. -/
theorem sixBits_getLsbD (b0 b1 b2 b3 b4 b5 : Bool) :
    let v : BitVec 6 := BitVec.ofBool b5 ++ BitVec.ofBool b4 ++ BitVec.ofBool b3 ++ BitVec.ofBool b2 ++ BitVec.ofBool b1 ++ BitVec.ofBool b0
    v.getLsbD 0 = b0 ∧ v.getLsbD 1 = b1 ∧ v.getLsbD 2 = b2 ∧ v.getLsbD 3 = b3 ∧ v.getLsbD 4 = b4 ∧ v.getLsbD 5 = b5 := by
  revert b0 b1 b2 b3 b4 b5
  decide

/-- Flag `k` of a status word is its bit at `STATUS_BIT[k]`. -/
theorem statusFlags_getLsbD (pos : Vector (Fin 16) 6) (w : Word16) (k : Fin 6) :
    (statusFlags pos w).getLsbD k = w.getLsbD pos[k] := by
  obtain ⟨h0, h1, h2, h3, h4, h5⟩ := sixBits_getLsbD (w.getLsbD pos[0]) (w.getLsbD pos[1]) (w.getLsbD pos[2])
    (w.getLsbD pos[3]) (w.getLsbD pos[4]) (w.getLsbD pos[5])
  fin_cases k
  · exact h0
  · exact h1
  · exact h2
  · exact h3
  · exact h4
  · exact h5

@[simp] theorem zext40_toNat {n : Nat} (v : BitVec n) (h : n ≤ 40) : (zext40 v).toNat = v.toNat := by
  simp only [zext40, BitVec.toNat_setWidth]
  exact Nat.mod_eq_of_lt (Nat.lt_of_lt_of_le v.isLt (Nat.pow_le_pow_right (by decide) h))

theorem crcRound_zero (poly : Byte) : crcRound poly 0#8 = 0#8 := by simp [crcRound]

/-- A round by a polynomial with an x^0 term gives zero from zero alone. -/
theorem crcRound_eq_zero (poly x : Byte) (h : poly.getLsbD 0 = true) (hx : crcRound poly x = 0#8) : x = 0#8 := by
  unfold crcRound at hx
  split at hx
  · have h0 := congrArg (fun y => y.getLsbD 0) hx
    simp at h0
    simp [h0] at h
  · rename_i h7
    apply BitVec.eq_of_getLsbD_eq
    intro i hi
    by_cases e : i = 7
    · subst e; simpa using h7
    · have hb := congrArg (fun y => y.getLsbD (i + 1)) hx
      have h8 : i + 1 < 8 := by omega
      simpa [h8, hi] using hb

theorem crcRounds_zero (poly : Byte) (n : Nat) : Nat.repeat (crcRound poly) n 0#8 = 0#8 := by
  induction n with
  | zero => rfl
  | succ n ih => simp [Nat.repeat, ih, crcRound_zero]

theorem crcRounds_eq_zero (poly : Byte) (h : poly.getLsbD 0 = true) (n : Nat) (x : Byte)
    (hx : Nat.repeat (crcRound poly) n x = 0#8) : x = 0#8 := by
  induction n with
  | zero => exact hx
  | succ n ih => exact ih (crcRound_eq_zero poly _ h hx)

theorem crcStep_self (poly c : Byte) : crcStep poly c c = 0#8 := by
  simp [crcStep, crcRounds_zero]

/-- A byte step by a polynomial with an x^0 term gives zero exactly for the register's own byte. -/
theorem crcStep_eq_zero_iff (poly c b : Byte) (h : poly.getLsbD 0 = true) : crcStep poly c b = 0#8 ↔ c = b :=
  ⟨fun e => BitVec.xor_eq_zero_iff.mp (crcRounds_eq_zero poly h 8 _ e), fun e => e ▸ crcStep_self poly c⟩

@[simp] theorem crc8_nil (p : Params) : crc8 p [] = p.crcInit := rfl

theorem crc8_append (p : Params) (bs : List Byte) (b : Byte) : crc8 p (bs ++ [b]) = crcStep p.crcPoly (crc8 p bs) b := by
  simp [crc8]

@[simp] theorem crcVerdict_self (c : Byte) : crcVerdict c c = .noError := by simp [crcVerdict]

theorem crcVerdict_eq_noError_iff (a c : Byte) : crcVerdict a c = .noError ↔ a = c := by
  unfold crcVerdict; split <;> simp_all

theorem crcVerdict_cases (a c : Byte) : crcVerdict a c = .noError ∨ crcVerdict a c = .crcMismatch := by
  unfold crcVerdict; split <;> simp

end Sys2Proof.Machine
end

