-- ==== Sys2Proof/Laws/State.lean ====
section
/-! SUPPORT. One lemma per field and update of State (R7's operations). -/

namespace Sys2Proof.Machine

variable (s : State) (y : ResultBus) (e : ErrCode) (v : Byte) (w : Word16) (p g : Nat) (d : DataMeaning)
  (l : List HostEvent) (iw : InstrWord)

@[simp] theorem respond_crcAcc : (s.respond y e).crcAcc = s.crcAcc := rfl
@[simp] theorem respond_rom : (s.respond y e).rom = s.rom := rfl
@[simp] theorem respond_params : (s.respond y e).params = s.params := rfl
@[simp] theorem respond_inbox : (s.respond y e).inbox = s.inbox := rfl
@[simp] theorem respond_responses : (s.respond y e).responses = { y := y, err := e } :: s.responses := rfl
@[simp] theorem respond_wire : (s.respond y e).wire = s.wire := rfl

@[simp] theorem raise_crcAcc : (s.raise e).crcAcc = s.crcAcc := rfl
@[simp] theorem raise_rom : (s.raise e).rom = s.rom := rfl
@[simp] theorem raise_params : (s.raise e).params = s.params := rfl
@[simp] theorem raise_inbox : (s.raise e).inbox = s.inbox := rfl
@[simp] theorem raise_responses : (s.raise e).responses = { y := 0#40, err := e } :: s.responses := rfl
@[simp] theorem raise_wire : (s.raise e).wire = s.wire := rfl

@[simp] theorem writeAcc_crcAcc : (s.writeAcc v).crcAcc = v := rfl
@[simp] theorem writeAcc_rom : (s.writeAcc v).rom = s.rom := rfl
@[simp] theorem writeAcc_params : (s.writeAcc v).params = s.params := rfl
@[simp] theorem writeAcc_inbox : (s.writeAcc v).inbox = s.inbox := rfl
@[simp] theorem writeAcc_responses : (s.writeAcc v).responses = s.responses := rfl
@[simp] theorem writeAcc_wire : (s.writeAcc v).wire = s.wire := rfl
@[simp] theorem writeAcc_self : s.writeAcc s.crcAcc = s := rfl

@[simp] theorem sendCommand_crcAcc : (s.sendCommand w p g d).crcAcc = s.crcAcc := rfl
@[simp] theorem sendCommand_rom : (s.sendCommand w p g d).rom = s.rom := rfl
@[simp] theorem sendCommand_params : (s.sendCommand w p g d).params = s.params := rfl
@[simp] theorem sendCommand_inbox : (s.sendCommand w p g d).inbox = s.inbox := rfl
@[simp] theorem sendCommand_responses : (s.sendCommand w p g d).responses = s.responses := rfl
@[simp] theorem sendCommand_wire : (s.sendCommand w p g d).wire =
    { byte0 := highByte w, byte1 := lowByte w, payloadWords := p, responseGroups := g, data := d } :: s.wire := rfl

@[simp] theorem resetBlock_crcAcc : s.resetBlock.crcAcc = s.params.crcInit := rfl
@[simp] theorem resetBlock_rom : s.resetBlock.rom = s.rom := rfl
@[simp] theorem resetBlock_params : s.resetBlock.params = s.params := rfl
@[simp] theorem resetBlock_inbox : s.resetBlock.inbox = s.inbox := rfl
@[simp] theorem resetBlock_responses : s.resetBlock.responses = s.responses := rfl
@[simp] theorem resetBlock_wire : s.resetBlock.wire = s.wire := rfl

@[simp] theorem withInbox_crcAcc : (s.withInbox l).crcAcc = s.crcAcc := rfl
@[simp] theorem withInbox_rom : (s.withInbox l).rom = s.rom := rfl
@[simp] theorem withInbox_params : (s.withInbox l).params = s.params := rfl
@[simp] theorem withInbox_inbox : (s.withInbox l).inbox = l := rfl
@[simp] theorem withInbox_responses : (s.withInbox l).responses = s.responses := rfl
@[simp] theorem withInbox_wire : (s.withInbox l).wire = s.wire := rfl

@[simp] theorem issueFirst_inbox : (s.issueFirst iw).inbox = .issue iw :: s.inbox := rfl
@[simp] theorem issueFirst_withInbox : (s.issueFirst iw).withInbox s.inbox = s := rfl

variable (t : Rom) (q : Params)

@[simp] theorem built_crcAcc : (State.built t q).crcAcc = q.crcInit := rfl
@[simp] theorem built_rom : (State.built t q).rom = t := rfl
@[simp] theorem built_params : (State.built t q).params = q := rfl
@[simp] theorem built_inbox : (State.built t q).inbox = [] := rfl
@[simp] theorem built_responses : (State.built t q).responses = [] := rfl
@[simp] theorem built_wire : (State.built t q).wire = [] := rfl

/-- R26: on this hardware `CRC_ACC` is 0xFF after reset. -/
theorem reset_crcAcc : State.reset.crcAcc = 0xFF#8 := rfl

end Sys2Proof.Machine
end

