-- ==== Sys2Proof/Laws/Exec.lean ====
section
/-! SUPPORT. What an instruction can do, said once: it answers and leaves the accumulator, or it is one of the two that write the
accumulator, or it is a command word and only reaches the wire, with a shape of R110. -/

namespace Sys2Proof.Machine

/-- The operations that only answer (R21: all but CRC.INIT, CRC.UPD and the command words). -/
def Answers (i : Instr) : Prop :=
  (∃ r, encode i = .req36 r) ∧ i ≠ .crcInit ∧ ∀ b, i ≠ .crcUpd b

theorem execCmdEnc_answers (id : BitVec 5) (s : State) : ∃ y e, execCmdEnc id s = .next (s.respond y e) := by
  unfold execCmdEnc; split
  · exact ⟨_, _, rfl⟩
  · exact ⟨_, _, rfl⟩

theorem execCmdPer_answers (m : BitVec 3) (r : BitVec 2) (s : State) : ∃ y e, execCmdPer m r s = .next (s.respond y e) := by
  unfold execCmdPer; split
  · exact ⟨_, _, rfl⟩
  · exact ⟨_, _, rfl⟩

/-- What an instruction does, whichever it is. -/
theorem exec_cases (i : Instr) (s : State) :
    (Answers i ∧ ∃ y e, exec i s = .next (s.respond y e))
    ∨ (i = .crcInit ∧ exec i s = .next ((s.writeAcc s.params.crcInit).respond (zext40 s.params.crcInit) .noError))
    ∨ (∃ b, i = .crcUpd b ∧
        exec i s = .next ((s.writeAcc (crcStep s.params.crcPoly s.crcAcc b)).respond
          (zext40 (crcStep s.params.crcPoly s.crcAcc b)) .noError))
    ∨ (∃ w p g d, encode i = .wire16 w ∧ (p ≤ 1 ∧ g = d.groups ∧ (p = 0 ∨ g = 0)) ∧ exec i s = .next (s.sendCommand w p g d)) := by
  cases i with
  | cmdEnc id => exact .inl ⟨⟨⟨_, rfl⟩, by simp, by simp⟩, execCmdEnc_answers id s⟩
  | cmdPer m r => exact .inl ⟨⟨⟨_, rfl⟩, by simp, by simp⟩, execCmdPer_answers m r s⟩
  | crcInit => exact .inr (.inl ⟨rfl, rfl⟩)
  | crcUpd b => exact .inr (.inr (.inl ⟨b, rfl, rfl⟩))
  | cvtC2r cb =>
    refine .inl ⟨⟨⟨_, rfl⟩, by simp, by simp⟩, ?_⟩
    show ∃ y e, execCvtC2r cb s = .next (s.respond y e)
    unfold execCvtC2r; split
    · exact ⟨_, _, rfl⟩
    · exact ⟨_, _, rfl⟩
  | _ => first
    | exact .inl ⟨⟨⟨_, rfl⟩, by simp, by simp⟩, _, _, rfl⟩
    | exact .inr (.inr (.inr ⟨_, _, _, _, rfl, by decide, rfl⟩))

end Sys2Proof.Machine
end

