-- ==== Sys2Proof/Laws/Float32.lean ====
section
/-! SUPPORT. The laws of rounding that the converter's statements rest on. -/

namespace Sys2Proof.Machine

theorem spacing_pos (n d : Nat) : 0 < spacing n d := by unfold spacing; positivity

/-- An exact quotient is not changed. -/
@[simp] theorem roundHalfEven_mul (q d : Nat) (hd : 0 < d) : roundHalfEven (q * d) d = q := by
  simp [roundHalfEven, hd, Nat.mul_div_cancel q hd]

/-- The rounded quotient is one of the two whole numbers around the quotient. -/
theorem roundHalfEven_eq_or (n d : Nat) : roundHalfEven n d = n / d ∨ roundHalfEven n d = n / d + 1 := by
  unfold roundHalfEven; split_ifs <;> simp

/-- The rounding error is at most half of the divisor, from above. -/
theorem two_mul_roundHalfEven_le (n d : Nat) : 2 * (roundHalfEven n d * d) ≤ 2 * n + d := by
  have h := Nat.div_add_mod n d
  have c := Nat.mul_comm d (n / d)
  have e : (n / d + 1) * d = n / d * d + d := Nat.succ_mul _ _
  unfold roundHalfEven; split_ifs <;> omega

/-- The rounding error is at most half of the divisor, from below. -/
theorem two_mul_le_roundHalfEven (n d : Nat) (hd : 0 < d) : 2 * n ≤ 2 * (roundHalfEven n d * d) + d := by
  have h := Nat.div_add_mod n d
  have c := Nat.mul_comm d (n / d)
  have m := Nat.mod_lt n hd
  have e : (n / d + 1) * d = n / d * d + d := Nat.succ_mul _ _
  unfold roundHalfEven; split_ifs <;> omega

end Sys2Proof.Machine
end

