-- ==== Sys2Proof/Laws/Frames.lean ====
section
/-! SUPPORT. What reading a response can answer, said once: nothing for an invalid frame, else the reading R110 gives its data words. -/

namespace Sys2Proof.Machine

variable (s : State) (c : WireCommand) (bs : List Byte)

theorem readResponse_invalid (h : frameValid s.params c.responseGroups bs = false) : s.readResponse c bs = none := by
  simp [State.readResponse, h]

theorem readResponse_valid (h : frameValid s.params c.responseGroups bs = true) :
    s.readResponse c bs = c.data.read s (frameWords bs) := by
  simp [State.readResponse, h]

@[simp] theorem frameWords_nil : frameWords [] = [] := rfl

@[simp] theorem frameWords_group (d0 d1 e : Byte) : frameWords (d0 :: d1 :: e :: bs) = wordOfBytes d0 d1 :: frameWords bs := rfl

end Sys2Proof.Machine
end

