-- ==== Sys2Proof/Laws/PerInstr.lean ====
section
/-! SUPPORT. Statements about every instruction as syntax, one lemma per constructor. EncodeMatchesRow: a well-formed instruction's
word has the format of its row of spec/opcode_table.json and "a legal request matches" that row, `(word & mask) == match`
(INDEX.md, R65). -/

namespace Sys2Proof.Laws.EncodeMatchesRow

/-- The word under the row's mask is the row's match. -/
def Statement (i : Instr) : Prop :=
  i.wf = true → (encode i).bits &&& (opcodeRow i).2 = (opcodeRow i).1

/-- A request `{op, a}` under a mask `{0xF, m}` is `{op, 0}` if no bit of `a` is under `m`. -/
theorem request_masked (op : BitVec 4) (a m : BitVec 32) (h : a &&& m = 0#32) :
    (op ++ a : BitVec 36).toNat &&& (0xF#4 ++ m : BitVec 36).toNat = (op ++ 0#32 : BitVec 36).toNat := by
  have e : (op ++ a) &&& (0xF#4 ++ m) = op ++ 0#32 := by
    rw [BitVec.and_append, h]
    congr 1
    exact BitVec.and_allOnes
  rw [← BitVec.toNat_and]
  exact congrArg BitVec.toNat e

/-- No bit of a field zero-extended to 32 bits is under a mask of the bits above the field. -/
theorem field_masked {n : Nat} (v : BitVec n) (m : BitVec 32) (h : m &&& (BitVec.allOnes n).setWidth 32 = 0#32) :
    v.setWidth 32 &&& m = 0#32 := by
  apply BitVec.eq_of_getLsbD_eq
  intro i hi
  have hb := congrArg (fun x => x.getLsbD i) h
  simp only [BitVec.getLsbD_and, BitVec.getLsbD_setWidth, BitVec.getLsbD_allOnes, BitVec.getLsbD_zero, hi,
    decide_true, Bool.true_and] at hb ⊢
  by_cases hn : i < n
  · simp_all
  · simp [BitVec.getLsbD_of_ge v i (by omega)]

theorem cmdEnc (id : BitVec 5) : Statement (.cmdEnc id) := fun _ =>
  request_masked 0x0#4 (id.setWidth 32) 0xFFFFFFE0#32 (field_masked id _ (by decide))

theorem cmdPer (m : BitVec 3) (r : BitVec 2) : Statement (.cmdPer m r) := by
  revert m r; unfold Statement; decide

theorem framePay (cmd p : Word16) : Statement (.framePay cmd p) := fun _ =>
  request_masked 0x2#4 (cmd ++ p) 0#32 (by simp)

theorem statDec (w : Word16) : Statement (.statDec w) := fun _ =>
  request_masked 0x3#4 (w.setWidth 32) 0xFFFF0000#32 (field_masked w _ (by decide))

theorem crcInit : Statement .crcInit := fun _ => by decide

theorem crcUpd (b : Byte) : Statement (.crcUpd b) := fun _ =>
  request_masked 0x5#4 (b.setWidth 32) 0xFFFFFF00#32 (field_masked b _ (by decide))

theorem crcRd : Statement .crcRd := fun _ => by decide

theorem crcChk (c : Byte) : Statement (.crcChk c) := fun _ =>
  request_masked 0x7#4 (c.setWidth 32) 0xFFFFFF00#32 (field_masked c _ (by decide))

theorem crcWord (d : Word16) : Statement (.crcWord d) := fun _ =>
  request_masked 0x8#4 (d.setWidth 32) 0xFFFF0000#32 (field_masked d _ (by decide))

theorem wordChk (d0 d1 c : Byte) : Statement (.wordChk d0 d1 c) := fun _ => by
  have e : (0x00#8 ++ d0 ++ d1 ++ c) &&& (0xFF#8 ++ 0x00#8 ++ 0x00#8 ++ 0x00#8) = 0#32 := by
    rw [BitVec.and_append, BitVec.and_append, BitVec.and_append]; simp
  exact request_masked 0x9#4 (0x00#8 ++ d0 ++ d1 ++ c) 0xFF000000#32 e

theorem cvtR2c (v : Word16) : Statement (.cvtR2c v) := fun _ =>
  request_masked 0xA#4 (v.setWidth 32) 0xFFFF0000#32 (field_masked v _ (by decide))

theorem cvtC2r (cb : BitVec 32) : Statement (.cvtC2r cb) := fun _ =>
  request_masked 0xB#4 cb 0#32 (by simp)

theorem alrtDec (b0 b1 : Byte) : Statement (.alrtDec b0 b1) := fun _ => by
  have e : (0x0000#16 ++ b0 ++ b1) &&& (0xFFFF#16 ++ 0x00#8 ++ 0x00#8) = 0#32 := by
    rw [BitVec.and_append, BitVec.and_append]; simp
  exact request_masked 0xC#4 (0x0000#16 ++ b0 ++ b1) 0xFFFF0000#32 e

theorem alrtEnc (lim : Word16) : Statement (.alrtEnc lim) := fun _ =>
  request_masked 0xD#4 (lim.setWidth 32) 0xFFFF0000#32 (field_masked lim _ (by decide))

theorem cmdSoftreset : Statement .cmdSoftreset := fun _ => by decide
theorem cmdBreak : Statement .cmdBreak := fun _ => by decide
theorem cmdHeaterEnable : Statement .cmdHeaterEnable := fun _ => by decide
theorem cmdHeaterDisable : Statement .cmdHeaterDisable := fun _ => by decide
theorem cmdReadStatus : Statement .cmdReadStatus := fun _ => by decide
theorem cmdClearStatus : Statement .cmdClearStatus := fun _ => by decide
theorem cmdReadSerial : Statement .cmdReadSerial := fun _ => by decide
theorem cmdMeasureLow : Statement .cmdMeasureLow := fun _ => by decide
theorem cmdMeasureMedium : Statement .cmdMeasureMedium := fun _ => by decide
theorem cmdMeasureHigh : Statement .cmdMeasureHigh := fun _ => by decide
theorem cmdFetchPeriodicResult : Statement .cmdFetchPeriodicResult := fun _ => by decide
theorem cmdReadAlertHighSet : Statement .cmdReadAlertHighSet := fun _ => by decide
theorem cmdReadAlertHighClear : Statement .cmdReadAlertHighClear := fun _ => by decide
theorem cmdReadAlertLowSet : Statement .cmdReadAlertLowSet := fun _ => by decide
theorem cmdReadAlertLowClear : Statement .cmdReadAlertLowClear := fun _ => by decide
theorem cmdWriteAlertHighSet : Statement .cmdWriteAlertHighSet := fun _ => by decide
theorem cmdWriteAlertHighClear : Statement .cmdWriteAlertHighClear := fun _ => by decide
theorem cmdWriteAlertLowSet : Statement .cmdWriteAlertLowSet := fun _ => by decide
theorem cmdWriteAlertLowClear : Statement .cmdWriteAlertLowClear := fun _ => by decide
theorem cmdPeriodicHalfMpsLow : Statement .cmdPeriodicHalfMpsLow := fun _ => by decide
theorem cmdPeriodicHalfMpsMedium : Statement .cmdPeriodicHalfMpsMedium := fun _ => by decide
theorem cmdPeriodicHalfMpsHigh : Statement .cmdPeriodicHalfMpsHigh := fun _ => by decide
theorem cmdPeriodic1MpsLow : Statement .cmdPeriodic1MpsLow := fun _ => by decide
theorem cmdPeriodic1MpsMedium : Statement .cmdPeriodic1MpsMedium := fun _ => by decide
theorem cmdPeriodic1MpsHigh : Statement .cmdPeriodic1MpsHigh := fun _ => by decide
theorem cmdPeriodic2MpsLow : Statement .cmdPeriodic2MpsLow := fun _ => by decide
theorem cmdPeriodic2MpsMedium : Statement .cmdPeriodic2MpsMedium := fun _ => by decide
theorem cmdPeriodic2MpsHigh : Statement .cmdPeriodic2MpsHigh := fun _ => by decide
theorem cmdPeriodic4MpsLow : Statement .cmdPeriodic4MpsLow := fun _ => by decide
theorem cmdPeriodic4MpsMedium : Statement .cmdPeriodic4MpsMedium := fun _ => by decide
theorem cmdPeriodic4MpsHigh : Statement .cmdPeriodic4MpsHigh := fun _ => by decide
theorem cmdPeriodic10MpsLow : Statement .cmdPeriodic10MpsLow := fun _ => by decide
theorem cmdPeriodic10MpsMedium : Statement .cmdPeriodic10MpsMedium := fun _ => by decide
theorem cmdPeriodic10MpsHigh : Statement .cmdPeriodic10MpsHigh := fun _ => by decide

end Sys2Proof.Laws.EncodeMatchesRow
end

