-- ==== Sys2Proof/Laws/Step.lean ====
section
/-! SUPPORT. The step by the kind of the oldest pending event. -/

namespace Sys2Proof.Machine

theorem step_cons (s : State) (e : HostEvent) (rest : List HostEvent) (h : s.inbox = e :: rest) :
    step s = runEvent e (s.withInbox rest) := by
  simp [step, takeEvent, h]

theorem runWord_instr (w : InstrWord) (i : Instr) (s : State) (h : decode w = .instr i) : runWord w s = exec i s := by
  simp [runWord, h]

theorem runWord_raised (w : InstrWord) (e : ErrCode) (s : State) (h : decode w = .raised e) :
    runWord w s = .next (s.raise e) := by
  simp [runWord, h]

theorem runWord_unlisted (w : InstrWord) (s : State) (h : decode w = .unlisted) :
    runWord w s = .refused (.unlistedWireCommand (BitVec.ofNat 16 w.bits)) := by
  simp [runWord, h]

/-- The decoder of requests is total: it never answers `unlisted`. -/
theorem decodeRequest_ne_unlisted (r : Request) : decodeRequest r ≠ .unlisted := by
  unfold decodeRequest
  split
  · simp
  · split_ifs <;> simp

end Sys2Proof.Machine
end

