-- ==== Sys2Proof/Tests/Slice0.lean ====
section
/-! SUPPORT. The model's own tests, expected values from spec/95_test_vectors.md and the rules' examples; the smoke test of WellFormed; a
witness for the hypotheses of every statement that has some. -/

namespace Sys2Proof.Tests

open Sys2Proof.Machine

set_option maxRecDepth 10000

/-- The state after a step, if it goes on. -/
def nextOf : Host.Outcome State Fault Refusal → Option State
  | .next t => some t
  | .fault _ => none
  | .refused _ => none

/-- After reset, with `acc` in `CRC_ACC`, one request is issued: the response and `CRC_ACC` after it. -/
def ask (acc : Byte) (r : Request) : Option (ResultBus × ErrCode × Byte) :=
  match nextOf (step { State.reset with crcAcc := acc, inbox := [.issue (.req36 r)] }) with
  | some t => t.responses.head?.map (fun q => (q.y, q.err, t.crcAcc))
  | none => none

/-- After reset one command word is put on the wire: the record of it, the number of responses and `CRC_ACC`. -/
def send (w : Word16) : Option (List WireCommand × Nat × Byte) :=
  (nextOf (step { State.reset with inbox := [.issue (.wire16 w)] })).map (fun t => (t.wire, t.responses.length, t.crcAcc))

/-! ## WellFormed refuses an ill-formed term for each of its checks (R67) -/

theorem test_wf_refuses_command_id_19 : (Instr.cmdEnc 19#5).wf = false := by decide
theorem test_wf_refuses_mps_code_5 : (Instr.cmdPer 5#3 0#2).wf = false := by decide
theorem test_wf_refuses_repeatability_code_3 : (Instr.cmdPer 4#3 3#2).wf = false := by decide
theorem test_wf_takes_the_greatest_codes : (Instr.cmdEnc 18#5).wf = true ∧ (Instr.cmdPer 4#3 2#2).wf = true := by decide

/-! ## Words written out from R60, R64 and the opcode table decode as the spec says -/

theorem test_decode_cmdEnc : decode (.req36 0x000000012#36) = .instr (.cmdEnc 18#5) := by decide
theorem test_decode_cmdPer : decode (.req36 0x100000024#36) = .instr (.cmdPer 4#3 2#2) := by decide
theorem test_decode_framePay : decode (.req36 0x2611D3E80#36) = .instr (.framePay 0x611D#16 0x3E80#16) := by decide
theorem test_decode_statDec : decode (.req36 0x300008001#36) = .instr (.statDec 0x8001#16) := by decide
theorem test_decode_crcInit : decode (.req36 0x400000000#36) = .instr .crcInit := by decide
theorem test_decode_crcUpd : decode (.req36 0x5000000BE#36) = .instr (.crcUpd 0xBE#8) := by decide
theorem test_decode_crcRd : decode (.req36 0x600000000#36) = .instr .crcRd := by decide
theorem test_decode_crcChk : decode (.req36 0x700000092#36) = .instr (.crcChk 0x92#8) := by decide
theorem test_decode_crcWord : decode (.req36 0x80000BEEF#36) = .instr (.crcWord 0xBEEF#16) := by decide
theorem test_decode_wordChk : decode (.req36 0x900123456#36) = .instr (.wordChk 0x12#8 0x34#8 0x56#8) := by decide
theorem test_decode_cvtR2c : decode (.req36 0xA00006666#36) = .instr (.cvtR2c 0x6666#16) := by decide
theorem test_decode_cvtC2r : decode (.req36 0xB41C80000#36) = .instr (.cvtC2r 0x41C80000#32) := by decide
theorem test_decode_alrtDec : decode (.req36 0xC00003E80#36) = .instr (.alrtDec 0x3E#8 0x80#8) := by decide
theorem test_decode_alrtEnc : decode (.req36 0xD00003E80#36) = .instr (.alrtEnc 0x3E80#16) := by decide
theorem test_decode_command_words :
    (commandRows ++ periodicRows).map (fun p => decode (.wire16 p.1)) = (commandRows ++ periodicRows).map (fun p => .instr p.2) := by
  decide
theorem test_the_rows_are_34_with_no_word_twice :
    (commandRows ++ periodicRows).length = 34 ∧ ((commandRows ++ periodicRows).map Prod.fst).Nodup := by decide
theorem test_decode_reserved_operation_first : decode (.req36 0xFFFFFFFFF#36) = .raised .illegalOp := by decide
theorem test_decode_reserved_bit : decode (.req36 0x100000008#36) = .raised .badOperand := by decide
theorem test_decode_id_19 : decode (.req36 0x000000013#36) = .raised .badOperand := by decide
theorem test_decode_r_3_m_5 : decode (.req36 0x100000035#36) = .raised .badOperand := by decide
theorem test_table_word : decodeTableWord 40 0xB41C80000 = some (.cvtC2r 0x41C80000#32)
    ∧ decodeTableWord 16 0xF32D = some .cmdReadStatus ∧ decodeTableWord 16 0x0000 = none ∧ decodeTableWord 40 0xE00000000 = none := by
  decide

/-! ## One step each (95_test_vectors.md sections 2.4, 3, 4) -/

theorem test_cmdEnc_soft_reset : ask 0xFF#8 0x000000000#36 = some (0x00000030A2#40, .noError, 0xFF#8) := by decide
theorem test_cmdEnc_reserved_id : ask 0x0C#8 0x000000013#36 = some (0x0000000000#40, .badOperand, 0x0C#8) := by decide
theorem test_cmdPer_10_high : ask 0xFF#8 0x100000024#36 = some (0x0000002737#40, .noError, 0xFF#8) := by decide
theorem test_cmdPer_4_low : ask 0xFF#8 0x100000003#36 = some (0x0000002329#40, .noError, 0xFF#8) := by decide
theorem test_framePay_alert : ask 0xFF#8 0x2611D3E80#36 = some (0x611D3E8024#40, .noError, 0xFF#8) := by decide
theorem test_framePay_all_ones : ask 0xFF#8 0x2FFFFFFFF#36 = some (0xFFFFFFFFAC#40, .noError, 0xFF#8) := by decide
theorem test_statDec_mixed : ask 0xFF#8 0x30000A412#36 = some (0x000000003E#40, .noError, 0xFF#8) := by decide
theorem test_statDec_reserved_bit : ask 0xFF#8 0x300010000#36 = some (0x0000000000#40, .badOperand, 0xFF#8) := by decide
theorem test_crcInit : ask 0x5A#8 0x400000000#36 = some (0x00000000FF#40, .noError, 0xFF#8) := by decide
theorem test_crcInit_reserved_bit : ask 0x5A#8 0x480000000#36 = some (0x0000000000#40, .badOperand, 0x5A#8) := by decide
theorem test_crcUpd_BE : ask 0xFF#8 0x5000000BE#36 = some (0x000000000C#40, .noError, 0x0C#8) := by decide
theorem test_crcUpd_EF : ask 0x0C#8 0x5000000EF#36 = some (0x0000000092#40, .noError, 0x92#8) := by decide
theorem test_crcRd : ask 0x92#8 0x600000000#36 = some (0x0000000092#40, .noError, 0x92#8) := by decide
theorem test_crcChk_match : ask 0x92#8 0x700000092#36 = some (0x0000000092#40, .noError, 0x92#8) := by decide
theorem test_crcChk_mismatch : ask 0x92#8 0x700000093#36 = some (0x0000000092#40, .crcMismatch, 0x92#8) := by decide
theorem test_crcWord_BEEF : ask 0x5A#8 0x80000BEEF#36 = some (0x0000000092#40, .noError, 0x5A#8) := by decide
theorem test_wordChk_match : ask 0x5A#8 0x900666693#36 = some (0x0000936666#40, .noError, 0x5A#8) := by decide
theorem test_wordChk_mismatch : ask 0x5A#8 0x900800194#36 = some (0x0000938001#40, .crcMismatch, 0x5A#8) := by decide
theorem test_cvtR2c_below_zero : ask 0xFF#8 0xA000041D3#36 = some (0x00BB160000#40, .noError, 0xFF#8) := by decide
theorem test_cvtR2c_rounded : ask 0xFF#8 0xA0000FFFE#36 = some (0x004301FF51#40, .noError, 0xFF#8) := by decide
theorem test_cvtC2r_least_legal : ask 0xFF#8 0xBC23402BC#36 = some (0x0000000000#40, .noError, 0xFF#8) := by decide
theorem test_cvtC2r_above_range : ask 0x0C#8 0xB430200AF#36 = some (0x0000000000#40, .range, 0x0C#8) := by decide
theorem test_alrtDec : ask 0xFF#8 0xC00003E80#36 = some (0x0000003E80#40, .noError, 0xFF#8) := by decide
theorem test_alrtEnc : ask 0xFF#8 0xD0000FFFF#36 = some (0x000000FFFF#40, .noError, 0xFF#8) := by decide
theorem test_illegal_operation : ask 0x0C#8 0xE000000EF#36 = some (0x0000000000#40, .illegalOp, 0x0C#8) := by decide

theorem test_crcStep_table_corner : crcStep 0x31#8 0x00#8 0x01#8 = 0x31#8 ∧ crcStep 0x31#8 0x00#8 0xFF#8 = 0xAC#8 := by decide
theorem test_crc_order_matters : crc8 referenceParams [0x00#8, 0x01#8] = 0xB0#8
    ∧ crc8 referenceParams [0x01#8, 0x00#8] = 0x75#8 := by decide
theorem test_frame_of_two_groups : frameValid referenceParams 2 [0x12#8, 0x34#8, 0x37#8, 0x56#8, 0x78#8, 0x7D#8] = true
    ∧ frameValid referenceParams 2 [0x12#8, 0x34#8, 0x37#8, 0x56#8, 0x78#8] = false ∧ serialOfWords 0x1234#16 0x5678#16 = 0x12345678#32 := by decide
theorem test_subnormal_pattern : f32 0x00000001#32 = some (.finite 1) ∧ bits32 (.finite 1) = 0x00000001#32 := by decide

/-! ## The command words on the wire (R42, R110) -/

theorem test_send_soft_reset : send 0x30A2#16 =
    some ([{byte0 := 0x30#8, byte1 := 0xA2#8, payloadWords := 0, responseGroups := 0, data := .nothing}], 0, 0xFF#8) := by decide
theorem test_send_read_serial : send 0x3780#16 =
    some ([{byte0 := 0x37#8, byte1 := 0x80#8, payloadWords := 0, responseGroups := 2, data := .serialNumber}], 0, 0xFF#8) := by decide
theorem test_send_write_alert : send 0x611D#16 =
    some ([{byte0 := 0x61#8, byte1 := 0x1D#8, payloadWords := 1, responseGroups := 0, data := .nothing}], 0, 0xFF#8) := by decide
theorem test_send_fetch : send 0xE000#16 =
    some ([{byte0 := 0xE0#8, byte1 := 0x00#8, payloadWords := 0, responseGroups := 1, data := .rawCode}], 0, 0xFF#8) := by decide
theorem test_send_periodic_1_medium : send 0x2126#16 =
    some ([{byte0 := 0x21#8, byte1 := 0x26#8, payloadWords := 0, responseGroups := 0, data := .nothing}], 0, 0xFF#8) := by decide
theorem test_send_unlisted_is_refused : send 0x0000#16 = none := by decide

/-! ## What the responses mean (R110, R44, R106), and other parameters than this hardware's (R5) -/

theorem test_read_status : State.reset.readResponse ⟨0xF3#8, 0x2D#8, 0, 1, .statusWord⟩ [0x80#8, 0x01#8, 0x93#8] = some (.status 0x11#6) := by decide
theorem test_read_serial : State.reset.readResponse ⟨0x37#8, 0x80#8, 0, 2, .serialNumber⟩
    [0x12#8, 0x34#8, 0x37#8, 0x56#8, 0x78#8, 0x7D#8] = some (.serial 0x12345678#32) := by decide
theorem test_read_of_an_invalid_frame : State.reset.readResponse ⟨0x24#8, 0x00#8, 0, 1, .rawCode⟩
    [0x66#8, 0x66#8, 0x92#8] = none := by decide
/-- CRC-8 with polynomial 0x07 and initial value 0 has the check value 0xF4 for the nine digits (its published check value). -/
theorem test_crc_with_another_polynomial :
    crc8 { referenceParams with crcPoly := 0x07#8, crcInit := 0x00#8 }
      [0x31#8, 0x32#8, 0x33#8, 0x34#8, 0x35#8, 0x36#8, 0x37#8, 0x38#8, 0x39#8] = 0xF4#8 := by decide
/-- With the two bytes placed the other way round (R107's layout turned over), `b0` is the low byte. -/
theorem test_alert_with_another_layout :
    decodeAlert #v[8, 9, 10, 11, 12, 13, 14, 15, 0, 1, 2, 3, 4, 5, 6, 7] 0x3E#8 0x80#8 = 0x803E#16
    ∧ encodeAlert #v[8, 9, 10, 11, 12, 13, 14, 15, 0, 1, 2, 3, 4, 5, 6, 7] 0x803E#16 = (0x3E#8, 0x80#8) := by decide

/-! ## Witnesses: each statement's hypotheses are met together -/

/-- After reset, with these events pending. -/
def pending (es : List HostEvent) : State := { State.reset with inbox := es }

theorem witness_DecodeOfEncodeIsTheInstruction : ∃ i : Instr, i.wf = true ∧ i = .cmdEnc 18#5 := ⟨_, by decide, rfl⟩
theorem witness_DecodedWordIsTheEncoding : ∃ w i, decode w = .instr i ∧ i ≠ .crcRd :=
  ⟨.req36 0x100000024#36, .cmdPer 4#3 2#2, by decide, by decide⟩
theorem witness_StepRunsTheDecodedInstruction : ∃ (s : State) (w : InstrWord) (rest : List HostEvent) (i : Instr), s.inbox = .issue w :: rest ∧ decode w = .instr i ∧ rest ≠ [] :=
  ⟨pending [.issue (.req36 0x5000000BE#36), .reset none], .req36 0x5000000BE#36, [.reset none], .crcUpd 0xBE#8, rfl, by decide, by decide⟩
theorem witness_StepAnswersDecoderErrors : ∃ (s : State) (w : InstrWord) (rest : List HostEvent) (e : ErrCode), s.inbox = .issue w :: rest ∧ decode w = .raised e :=
  ⟨pending [.issue (.req36 0x500000100#36)], .req36 0x500000100#36, [], .badOperand, rfl, by decide⟩
theorem witness_StepWaitsWhenNothingIsPending : State.reset.inbox = [] := rfl
theorem witness_AllPendingRequestsAreAnswered : ∃ (s : State) (rs : List Request),
    s.inbox = rs.map (fun r => .issue (.req36 r)) ∧ rs.length = 2 :=
  ⟨pending [.issue (.req36 0xE00000000#36), .issue (.req36 0x600000000#36)], [0xE00000000#36, 0x600000000#36], rfl, rfl⟩
theorem witness_ListedEventsNeverStopTheMachine :
    ∀ (e : HostEvent) (rest : List HostEvent), (pending [.issue (.wire16 0x3093#16)]).inbox = e :: rest → e.listed = true := by
  intro e rest h
  cases h
  decide
theorem witness_UnlistedWireWordIsRefused : (pending [.issue (.wire16 0x0000#16)]).inbox = .issue (.wire16 0x0000#16) :: []
    ∧ ∀ i : Instr, encode i ≠ .wire16 0x0000#16 :=
  ⟨rfl, fun i => by cases i <;> simp [encode]⟩

/-- CRC.CHK, WORD.CHK, a reserved bit, a reserved code and a NaN: each error of R201 is answered. -/
theorem witness_ErrorsWriteNoState :
    (∃ t q, step { State.reset with inbox := [.issue (.req36 0x700000000#36)] } = .next t ∧ t.responses = [q] ∧ q.err = .crcMismatch)
    ∧ (∃ t q, step { State.reset with inbox := [.issue (.req36 0x900000000#36)] } = .next t ∧ t.responses = [q] ∧ q.err = .crcMismatch)
    ∧ (∃ t q, step { State.reset with inbox := [.issue (.req36 0x600000001#36)] } = .next t ∧ t.responses = [q] ∧ q.err = .badOperand)
    ∧ (∃ t q, step { State.reset with inbox := [.issue (.req36 0xE00000000#36)] } = .next t ∧ t.responses = [q] ∧ q.err = .illegalOp)
    ∧ (∃ t q, step { State.reset with inbox := [.issue (.req36 0xB7FC00000#36)] } = .next t ∧ t.responses = [q] ∧ q.err = .range) :=
  ⟨⟨_, _, rfl, rfl, rfl⟩, ⟨_, _, rfl, rfl, rfl⟩, ⟨_, _, rfl, rfl, rfl⟩, ⟨_, _, rfl, rfl, rfl⟩, ⟨_, _, rfl, rfl, rfl⟩⟩

/-- An operation that neither reads nor writes the accumulator, CRC.INIT, and one that ends in an error. -/
theorem witness_AccumulatorHasItsReadersAndWriters :
    (∃ t, exec (.wordChk 0#8 0#8 0x81#8) State.reset = .next t) ∧ (∃ t, exec .crcInit State.reset = .next t)
    ∧ ∃ t r, exec (.cmdEnc 19#5) State.reset = .next t ∧ t.responses = r :: State.reset.responses ∧ r.err ≠ .noError :=
  ⟨⟨_, rfl⟩, ⟨_, rfl⟩, ⟨_, _, rfl, rfl, by decide⟩⟩
theorem witness_InstructionsKeepTheirFrame :
    (∃ t r, exec .crcRd State.reset = .next t ∧ encode .crcRd = .req36 r)
    ∧ ∃ t w, exec .cmdBreak State.reset = .next t ∧ encode .cmdBreak = .wire16 w :=
  ⟨⟨_, _, rfl, rfl⟩, ⟨_, _, rfl, rfl⟩⟩
theorem witness_NoStepChangesTheTables : ∃ t, step (pending [.reset (some 0x5000000BE#36)]) = .next t := ⟨_, rfl⟩
theorem witness_PastResponsesAreNeverRead :
    (∃ t r, exec (.crcUpd 1#8) State.reset = .next t ∧ t.responses = r :: State.reset.responses)
    ∧ ∃ t c, exec .cmdReadSerial State.reset = .next t ∧ t.wire = c :: State.reset.wire :=
  ⟨⟨_, _, rfl, rfl⟩, ⟨_, _, rfl, rfl⟩⟩
theorem witness_OnlyCrcUpdIsNotIdempotent : ∃ r t, encode (.crcChk 0#8) = .req36 r ∧ exec (.crcChk 0#8) State.reset = .next t :=
  ⟨_, _, rfl, rfl⟩
theorem test_crcUpd_twice_differs : 
    crcStep 0x31#8 0xFF#8 0xBE#8 ≠ crcStep 0x31#8 (crcStep 0x31#8 0xFF#8 0xBE#8) 0xBE#8 := by decide
theorem witness_EveryStepKeepsTheInvariant : ∃ s t : State, s.Inv ∧ step s = .next t ∧ s.responses ≠ [] ∧ s.wire ≠ [] :=
  ⟨{ State.reset with
      inbox := [.issue (.req36 0x600000000#36)], responses := [{ y := 0#40, err := .range }],
      wire := [{ byte0 := 0x30#8, byte1 := 0xA2#8, payloadWords := 0, responseGroups := 0, data := .nothing }] }, _,
    ⟨by decide, by decide, by decide, by decide⟩, rfl, by decide, by decide⟩
theorem witness_StreamingComputesTheChecksum : ∃ (s : State) (bs : List Byte) (rest : List HostEvent),
    s.inbox = Spec.events (crcSeqRequests bs) ++ rest ∧ bs = [0xBE#8, 0xEF#8] :=
  ⟨pending (Spec.events (crcSeqRequests [0xBE#8, 0xEF#8]) ++ []), _, _, rfl, rfl⟩
theorem witness_GroupChkAgreesWithWordChk : ∃ (s : State) (d0 d1 c : Byte) (rest : List HostEvent),
    s.inbox = Spec.events (groupChkRequests d0 d1 c) ++ rest ∧ c = 0x37#8 :=
  ⟨pending (Spec.events (groupChkRequests 0x12#8 0x34#8 0x37#8) ++ []), _, _, _, _, rfl, rfl⟩
/-- The polynomial of this hardware has an x^0 term. -/
theorem witness_ResidueOfACheckedSequenceIsZero : referenceParams.crcPoly.getLsbD 0 = true := by decide
theorem witness_CrcChkRequest : State.reset.params.crcPoly.getLsbD 0 = true := by decide
/-- An invalid frame, a valid one of each meaning with one group, and a valid one of two groups. -/
theorem witness_FrameIsValidWhenEveryGroupIs :
    frameValid State.reset.params 1 [0x66#8, 0x66#8, 0x92#8] = false
    ∧ frameValid State.reset.params 1 [0x66#8, 0x66#8, 0x93#8] = true
    ∧ (∀ d : DataMeaning, d = .statusWord ∨ d = .rawCode ∨ d = .alertLimit →
        ∃ c : WireCommand, c.responseGroups = 1 ∧ c.data = d)
    ∧ (∃ c : WireCommand, c.responseGroups = 2 ∧ c.data = .serialNumber)
    ∧ frameValid State.reset.params 2 [0x12#8, 0x34#8, 0x37#8, 0x56#8, 0x78#8, 0x7D#8] = true :=
  ⟨by decide, by decide, fun d _ => ⟨⟨0#8, 0#8, 0, 1, d⟩, rfl, rfl⟩, ⟨⟨0#8, 0#8, 0, 2, .serialNumber⟩, rfl, rfl⟩, by decide⟩
/-- Reserved bits set and clear, a layout that keeps every bit, and the big-endian one. -/
theorem witness_AlrtDecRequest : 0x00010000#32 &&& 0xFFFF0000#32 ≠ 0#32 ∧ 0x0000FFFF#32 &&& 0xFFFF0000#32 = 0#32
    ∧ State.reset.params.alertLayout.toList.Nodup ∧ Spec.bigEndian State.reset.params.alertLayout := by decide
theorem witness_AlrtEncRequest : 0x00010000#32 &&& 0xFFFF0000#32 ≠ 0#32 ∧ 0x0000FFFF#32 &&& 0xFFFF0000#32 = 0#32
    ∧ Spec.bigEndian State.reset.params.alertLayout := by decide
theorem witness_PeriodicWordsAreDistinct : ∃ t y, State.reset.rom.wf = true ∧ exec (.cmdPer 4#3 2#2) State.reset = .next t
    ∧ t.responses = { y := y, err := .noError } :: State.reset.responses := ⟨_, _, by decide, rfl, rfl⟩
theorem witness_FramePayloadPassesWordChk : ∃ t y, exec (.framePay 0x611D#16 0x3E80#16) State.reset = .next t
    ∧ t.responses = { y := y, err := .noError } :: State.reset.responses := ⟨_, _, rfl, rfl⟩
theorem witness_StatDecRequest : 0x00010000#32 &&& 0xFFFF0000#32 ≠ 0#32 ∧ 0x0000FFFF#32 &&& 0xFFFF0000#32 = 0#32 := by decide
theorem witness_DocumentedStatusBitsStandAlone : State.reset.rom.wf = true := by decide
theorem witness_CodecOperationsComplete : (18#5).toNat < 19 ∧ (4#3).toNat < 5 ∧ (2#2).toNat < 3
    ∧ Spec.bigEndian State.reset.params.alertLayout := by decide
theorem witness_CommandWordsDecodeToTheirCommand :
    State.reset.rom.cmdWord[(CommandId.writeAlertLowClear).code.toNat]? = referenceCmdWord[(CommandId.writeAlertLowClear).code.toNat]? := rfl
theorem witness_PeriodicWordsDecodeToTheirCommand :
    State.reset.rom.perHi = referencePerHi ∧ State.reset.rom.perLo = referencePerLo := ⟨rfl, rfl⟩
theorem witness_AlertWriteMacroBuildsTheFrame : (15#5).toNat < 19 ∧ Spec.bigEndian State.reset.params.alertLayout := by decide

/-- A tie, rounded to the even pattern; the next theorem has both sides of the overflow threshold. -/
theorem witness_RoundingIsToNearestTiesToEven : (0 : Nat) < 1 ∧ fl32 (2 ^ 24 + 1) 1 = .finite (2 ^ 24) := by decide
theorem test_rounding_overflow_threshold :
    fl32 (2 ^ 24 * 2 ^ 253 - 2 ^ 252) 1 = .inf false ∧ fl32 (2 ^ 24 * 2 ^ 253 - 2 ^ 252 - 1) 1 = .finite ((2 ^ 24 - 1) * 2 ^ 253) := by
  decide
theorem witness_PatternOfAValueIsItsOwn : ∃ b x, f32 b = some x ∧ b ≠ 0x80000000#32 ∧ b = 0x807FFFFF#32 :=
  ⟨_, .finite (-0x7FFFFF), by decide, by decide, rfl⟩
theorem witness_CvtR2cRequest : 0x00010000#32 &&& 0xFFFF0000#32 ≠ 0#32 ∧ 0x0000FFFF#32 &&& 0xFFFF0000#32 = 0#32 := by decide
theorem witness_CelsiusIsStrictlyIncreasing : ∃ (v v' : Word16) (k k' : Int), v < v' ∧ rawToCelsius v = .finite k
    ∧ rawToCelsius v' = .finite k' ∧ v = 0x41D3#16 :=
  ⟨0x41D3#16, 0x41D4#16, -((2 ^ 23 + 0x160000) * 2 ^ 117), (2 ^ 23 + 0x480000) * 2 ^ 114, by decide, by decide, by decide, rfl⟩

/-- A NaN, an infinity and a finite pattern. -/
theorem witness_CvtC2rTruncatesOrRaisesRange : f32 0x7F800001#32 = none ∧ f32 0xFF800000#32 = some (.inf true)
    ∧ f32 0x3F800000#32 = some (.finite (2 ^ 149)) := by decide

/-- The number of units of `s3` (R172) for a finite pattern; none where it is an infinity. -/
def scaledUnits (cb : BitVec 32) : Option Int :=
  match (f32 cb).map celsiusScaled with
  | some (.finite k) => some k
  | _ => none

/-- The four ranges of a finite `s3`, at the end points of R172. -/
theorem witness_CvtC2r_ranges_of_s3 :
    (scaledUnits 0xC23402BD#32).any (fun k => decide (k ≤ -2 ^ 149)) = true
    ∧ (scaledUnits 0xC23402BC#32).any (fun k => decide (-2 ^ 149 < k ∧ k < 0)) = true
    ∧ (scaledUnits 0x430200AE#32).any (fun k => decide (0 ≤ k ∧ k < 65536 * 2 ^ 149)) = true
    ∧ (scaledUnits 0x430200AF#32).any (fun k => decide (65536 * 2 ^ 149 ≤ k)) = true := by decide
set_option exponentiation.threshold 300 in
theorem witness_CvtC2r_infinite_product : f32 0x7F7FC99E#32 ≠ none ∧ scaledUnits 0x7F7FC99E#32 = none := by decide
set_option exponentiation.threshold 300 in
theorem test_cvtC2r_overflowing_product : celsiusToRaw 0x7F7FC99E#32 = none := by decide
theorem witness_LegalCelsiusPatternsFormOneInterval :
    (0x430200AE#32).toNat ≤ 0x430200AE ∧ ¬ ((0xC23402BD#32).toNat ≤ 0x430200AE ∨ (0x80000000 ≤ (0xC23402BD#32).toNat
      ∧ (0xC23402BD#32).toNat ≤ 0xC23402BC)) := by decide
theorem witness_ZerosAndSubnormalsGiveOneCode : (0x807FFFFF#32).extractLsb' 23 8 = 0#8 := by decide

end Sys2Proof.Tests
end

section
/-! PROOFS. Who reads and who writes `CRC_ACC` (R21). -/

namespace Sys2Proof.Machine

variable {i : Instr} {s t : State}

/-- R21's two writers: every other instruction leaves `CRC_ACC`. -/
theorem exec_crcAcc_of_not_writer (hinit : i ≠ .crcInit) (hupd : ∀ b, i ≠ .crcUpd b) (h : exec i s = .next t) :
    t.crcAcc = s.crcAcc := by
  obtain ⟨-, y, e, hx⟩ | ⟨hi, -⟩ | ⟨b, hi, -⟩ | ⟨w, p, g, d, -, -, hx⟩ := exec_cases i s
  · cases hx.symm.trans h; rfl
  · exact absurd hi hinit
  · exact absurd hi (hupd b)
  · cases hx.symm.trans h; rfl

/-- R202: both writers answer NONE, so an instruction that answers an error is no writer. -/
theorem exec_crcAcc_of_error {r : Response} (h : exec i s = .next t) (hr : t.responses = r :: s.responses)
    (he : r.err ≠ .noError) : t.crcAcc = s.crcAcc := by
  refine exec_crcAcc_of_not_writer ?_ ?_ h
  · rintro rfl
    cases h; cases hr
    exact he rfl
  · rintro b rfl
    cases h; cases hr
    exact he rfl

theorem execCmdEnc_writeAcc {id : BitVec 5} (h : execCmdEnc id s = .next t) (a : Byte) :
    execCmdEnc id (s.writeAcc a) = .next (t.writeAcc a) := by
  unfold execCmdEnc at h ⊢
  by_cases hid : id.toNat < 19
  · rw [dif_pos hid] at h ⊢
    cases h; rfl
  · rw [dif_neg hid] at h ⊢
    cases h; rfl

theorem execCmdPer_writeAcc {m : BitVec 3} {r : BitVec 2} (h : execCmdPer m r s = .next t) (a : Byte) :
    execCmdPer m r (s.writeAcc a) = .next (t.writeAcc a) := by
  unfold execCmdPer at h ⊢
  by_cases hmr : m.toNat < 5 ∧ r.toNat < 3
  · rw [dif_pos hmr] at h ⊢
    cases h; rfl
  · rw [dif_neg hmr] at h ⊢
    cases h; rfl

theorem execCvtC2r_writeAcc {cb : BitVec 32} (h : execCvtC2r cb s = .next t) (a : Byte) :
    execCvtC2r cb (s.writeAcc a) = .next (t.writeAcc a) := by
  unfold execCvtC2r at h ⊢
  split at h
  · cases h; rfl
  · cases h; rfl

/-- CRC.INIT overwrites `CRC_ACC` without reading it (R143). -/
theorem exec_crcInit_writeAcc (s : State) (a : Byte) : exec .crcInit (s.writeAcc a) = exec .crcInit s := rfl

/-- R21: an instruction that is neither a reader nor a writer of `CRC_ACC` commutes with writing it. -/
theorem exec_writeAcc (hinit : i ≠ .crcInit) (hupd : ∀ b, i ≠ .crcUpd b) (hrd : i ≠ .crcRd) (hchk : ∀ c, i ≠ .crcChk c)
    (h : exec i s = .next t) (a : Byte) : exec i (s.writeAcc a) = .next (t.writeAcc a) := by
  cases i with
  | crcInit => exact absurd rfl hinit
  | crcUpd b => exact absurd rfl (hupd b)
  | crcRd => exact absurd rfl hrd
  | crcChk c => exact absurd rfl (hchk c)
  | cmdEnc id => exact execCmdEnc_writeAcc h a
  | cmdPer m r => exact execCmdPer_writeAcc h a
  | cvtC2r cb => exact execCvtC2r_writeAcc h a
  | _ => cases h; rfl

end Sys2Proof.Machine

open Sys2Proof Sys2Proof.Machine

/-- Settles O16: the writers by `exec_cases`, the readers because every other instruction commutes with writing `CRC_ACC`. -/
theorem accumulatorHasItsReadersAndWriters : Obligations.AccumulatorHasItsReadersAndWriters := by
  intro i s t h
  refine ⟨fun hinit hupd => exec_crcAcc_of_not_writer hinit hupd h, fun hupd hrd hchk a => ?_,
    fun r hr he => exec_crcAcc_of_error h hr he⟩
  by_cases hinit : i = .crcInit
  · subst hinit
    refine ⟨t, (exec_crcInit_writeAcc s a).trans h, rfl, rfl, rfl, rfl, rfl, ?_⟩
    cases h
    rfl
  · exact ⟨t.writeAcc a, exec_writeAcc hinit hupd hrd hchk h a, rfl, rfl, rfl, rfl, rfl, (if_neg hinit).symm⟩

end

section
/-! PROOFS. The decoder of requests (R70) on a request given by its parts `{op, a}`, and the step that takes one. -/

namespace Sys2Proof

/-- R63, R64: the operation OP selects is its entry in the list of operations, and 0xE and 0xF have none. -/
theorem operationOf_eq_getElem? (op : BitVec 4) (a : OperandBus) : operationOf op a = (Spec.operations a)[op.toNat]? := by
  obtain ⟨n⟩ := op
  fin_cases n <;> rfl

/-- R66: exactly 0xE and 0xF select no operation. -/
theorem operationOf_eq_none_iff (op : BitVec 4) (a : OperandBus) : operationOf op a = none ↔ op = 0xE#4 ∨ op = 0xF#4 := by
  rw [operationOf_eq_getElem?, List.getElem?_eq_none_iff, show (Spec.operations a).length = 14 from rfl]
  revert op
  decide

/-- The decoder's mask of an operation is its entry in R70's list. -/
theorem reservedMask_eq_getD (op : BitVec 4) (h : ¬ (op = 0xE#4 ∨ op = 0xF#4)) :
    reservedMask op = Spec.reservedBits.getD op.toNat 0#32 := by
  revert op
  decide

/-- R67: of the two-bit codes only 3 is no repeatability. -/
theorem repeatabilityCodeOk_iff (r : BitVec 2) : repeatabilityCodeOk r = true ↔ r ≠ 3#2 := by
  revert r
  decide

/-- R67: only CMD.ENC and CMD.PER have a field check. -/
theorem wf_iff_of_operationOf {op : BitVec 4} {a : OperandBus} {i : Instr} (h : operationOf op a = some i) :
    i.wf = true ↔ ¬ (op = 0x0#4 ∧ 18 < (a.extractLsb' 0 5).toNat)
      ∧ ¬ (op = 0x1#4 ∧ (4 < (a.extractLsb' 0 3).toNat ∨ a.extractLsb' 4 2 = 3#2)) := by
  by_cases h0 : op = 0x0#4
  · subst h0
    cases h
    simp [Instr.wf, commandIdOk]
  by_cases h1 : op = 0x1#4
  · subst h1
    cases h
    simp [Instr.wf, mpsCodeOk, repeatabilityCodeOk_iff]
  have hwf : i.wf = true := by
    unfold operationOf at h
    split at h
    next hop => exact absurd (BitVec.eq_of_toNat_eq hop) h0
    next hop => exact absurd (BitVec.eq_of_toNat_eq hop) h1
    all_goals cases h <;> rfl
  simp [h0, h1, hwf]

/-- R66: a reserved operation code is refused, whatever the operand. -/
theorem decode_reservedOp {op : BitVec 4} (h : op = 0xE#4 ∨ op = 0xF#4) (a : OperandBus) :
    decode (.req36 (op ++ a)) = .raised .illegalOp := by
  simp [decode, decodeRequest, (operationOf_eq_none_iff op a).mpr h]

/-- The tests of R70 that follow the first, for a request whose code selects `i`. -/
theorem decode_operation {op : BitVec 4} {a : OperandBus} {i : Instr} (h : operationOf op a = some i) :
    decode (.req36 (op ++ a)) =
      if a &&& reservedMask op ≠ 0#32 then .raised .badOperand
      else if i.wf then .instr i
      else .raised .badOperand := by
  simp [decode, decodeRequest, h]

namespace Machine

/-- The step takes the request issued first and leaves the events that were pending. -/
theorem step_issued (s : State) (op : BitVec 4) (a : OperandBus) : step (Spec.issued s op a) = runWord (.req36 (op ++ a)) s :=
  step_cons (Spec.issued s op a) _ s.inbox rfl

/-- R202: a request the decoder refuses is answered with `Y = 0` and the decoder's code. -/
theorem step_issued_raised {op : BitVec 4} {a : OperandBus} {e : ErrCode} (h : decode (.req36 (op ++ a)) = .raised e)
    (s : State) : step (Spec.issued s op a) = .next (Spec.answered s 0#40 e) :=
  (step_issued s op a).trans (runWord_raised _ e s h)

end Machine

end Sys2Proof

open Sys2Proof Sys2Proof.Machine

/-- Settles O4: a reserved code selects no operation; for the others the masks are R70's list, and the field checks of the selected
operation are the two of CMD.ENC and CMD.PER. -/
theorem requestDecoderTestsInOrder : Obligations.RequestDecoderTestsInOrder := by
  intro op a
  by_cases hop : op = 0xE#4 ∨ op = 0xF#4
  · rw [if_pos hop, decode_reservedOp hop]
  · obtain ⟨i, hi⟩ := Option.ne_none_iff_exists'.mp (mt (operationOf_eq_none_iff op a).mp hop)
    rw [if_neg hop, decode_operation hi, reservedMask_eq_getD op hop, ← operationOf_eq_getElem?, hi]
    simp only [wf_iff_of_operationOf hi, Option.elim_some]
    split_ifs <;> tauto

/-- Settles O7: the decoder refuses both codes before it looks at the operand. -/
theorem reservedOperationsAreIllegal : Obligations.ReservedOperationsAreIllegal := fun s a =>
  ⟨step_issued_raised (decode_reservedOp (.inl rfl) a) s, step_issued_raised (decode_reservedOp (.inr rfl) a) s⟩

end

section
/-! PROOFS. An operation taken from its raw request (R60, R70, R202), then the operations of the command codec so taken. -/

namespace Sys2Proof.Machine

/-- R65, R67, R70, R202: a request whose code selects `i` runs `i` if no reserved bit is set and the fields are in their enumerations,
and answers BAD_OPERAND if not. -/
theorem step_issued_operation {op : BitVec 4} {a : OperandBus} {i : Instr} (h : operationOf op a = some i) (s : State) :
    step (Spec.issued s op a) =
      if a &&& reservedMask op = 0#32 ∧ i.wf = true then exec i s else .next (Spec.answered s 0#40 .badOperand) := by
  have hd := decode_operation h
  by_cases hres : a &&& reservedMask op = 0#32
  · rw [if_neg (not_not_intro hres)] at hd
    by_cases hwf : i.wf = true
    · rw [if_pos hwf] at hd
      rw [if_pos ⟨hres, hwf⟩, step_issued, runWord_instr _ i s hd]
    · rw [if_neg hwf] at hd
      rw [if_neg fun hc => hwf hc.2, step_issued_raised hd]
  · rw [if_pos hres] at hd
    rw [if_neg fun hc => hres hc.1, step_issued_raised hd]

/-- R102: an id of the table answers its entry. -/
theorem exec_cmdEnc_of_lt {id : BitVec 5} (h : id.toNat < 19) (s : State) :
    exec (.cmdEnc id) s = .next (Spec.answered s (s.rom.cmdWord[id.toNat].setWidth 40) .noError) :=
  dif_pos h

/-- R42: the bytes of the low half of the operand bus are its own. -/
theorem wireBytes_extractLsb' (a : OperandBus) : wireBytes (a.extractLsb' 0 16) = [a.extractLsb' 8 8, a.extractLsb' 0 8] := by
  have hi : highByte (a.extractLsb' 0 16) = a.extractLsb' 8 8 := BitVec.extractLsb'_extractLsb'_of_le (by decide)
  have lo : lowByte (a.extractLsb' 0 16) = a.extractLsb' 0 8 := BitVec.extractLsb'_extractLsb'_of_le (by decide)
  rw [wireBytes, hi, lo]

/-- R45, R104: a write frame is the command word, the payload and the payload's checksum. -/
theorem writeFrame_eq_append (q : Params) (cmd p : Word16) : writeFrame q cmd p = (cmd ++ p) ++ crc8 q (wireBytes p) := by
  have bytes : highByte cmd ++ lowByte cmd ++ highByte p ++ lowByte p = cmd ++ p :=
    BitVec.append_assoc.trans (congrArg₂ (· ++ ·) (highByte_append_lowByte cmd) (highByte_append_lowByte p))
  exact congrArg (· ++ crc8 q (wireBytes p)) bytes

/-- R64, R104: the frame of the operand's two halves is the operand with its payload's checksum. -/
theorem writeFrame_extractLsb' (q : Params) (a : OperandBus) :
    writeFrame q (a.extractLsb' 16 16) (a.extractLsb' 0 16) = a ++ crc8 q [a.extractLsb' 8 8, a.extractLsb' 0 8] := by
  have halves : a.extractLsb' 16 16 ++ a.extractLsb' 0 16 = a :=
    (BitVec.extractLsb'_append_extractLsb'_eq_extractLsb' rfl).trans BitVec.extractLsb'_eq_self
  rw [writeFrame_eq_append, halves, wireBytes_extractLsb']

/-- R7: below bit 40 a zero-extended result has the bits of the value. -/
theorem zext40_getLsbD {n : Nat} (v : BitVec n) {k : Nat} (h : k < 40) : (zext40 v).getLsbD k = v.getLsbD k := by
  simp [zext40, h]

/-- R106: a status position selects the same bit in `A[15:0]` and in `A`. -/
theorem getLsbD_lowHalf (a : OperandBus) (j : Fin 16) : (a.extractLsb' 0 16).getLsbD j = a.getLsbD j := by
  simp [j.isLt]

end Sys2Proof.Machine

open Sys2Proof Sys2Proof.Machine

/-- Settles O37: the field check of CMD.ENC is the bound of the table it reads. -/
theorem cmdEncRequest : Obligations.CmdEncRequest := by
  intro s a
  have hwf : (Instr.cmdEnc (a.extractLsb' 0 5)).wf = true ↔ (a.extractLsb' 0 5).toNat ≤ 18 := decide_eq_true_iff
  have hstep := step_issued_operation (op := 0x0#4) (i := .cmdEnc (a.extractLsb' 0 5)) rfl s
  by_cases h : a &&& 0xFFFFFFE0#32 = 0#32 ∧ (a.extractLsb' 0 5).toNat ≤ 18
  · rw [dif_pos h]
    exact (hstep.trans (if_pos ⟨h.1, hwf.mpr h.2⟩)).trans (exec_cmdEnc_of_lt (Nat.lt_succ_of_le h.2) s)
  · rw [dif_neg h]
    exact hstep.trans (if_neg fun hc => h ⟨hc.1, hwf.mp hc.2⟩)

/-- Settles O40: FRAME.PAY has no reserved bit and no field check, and its frame is the operand with the payload's checksum. -/
theorem framePayRequest : Obligations.FramePayRequest := by
  intro s a
  have hstep := step_issued_operation (op := 0x2#4) (i := .framePay (a.extractLsb' 16 16) (a.extractLsb' 0 16)) rfl s
  rw [← writeFrame_extractLsb']
  exact hstep.trans (if_pos ⟨BitVec.and_zero, rfl⟩)

/-- Settles O42: a reserved bit is refused; otherwise the flags are read at their positions, all of them within `A[15:0]`. -/
theorem statDecRequest : Obligations.StatDecRequest := by
  intro s a
  have hstep := step_issued_operation (op := 0x3#4) (i := .statDec (a.extractLsb' 0 16)) rfl s
  refine ⟨fun hres => hstep.trans (if_neg fun h => hres h.1), fun hres =>
    ⟨zext40 (statusFlags s.rom.statusBit (a.extractLsb' 0 16)), hstep.trans (if_pos ⟨hres, rfl⟩), fun k => ?_, ?_⟩⟩
  · rw [zext40_getLsbD _ (by omega), statusFlags_getLsbD, getLsbD_lowHalf]
  · rw [zext40_toNat _ (by decide)]
    exact BitVec.isLt _

end

section
/-! PROOFS. The byte step of the checksum against the bit-serial division (R140 to R142), the residue law (R150), and the operations of
the checksum engine taken from their raw requests. -/

namespace Sys2Proof.Machine

/-- R141: the byte step as an iterate of the round. -/
theorem crcStep_eq_iterate (poly c b : Byte) : crcStep poly c b = (crcRound poly)^[8] (c ^^^ b) := rfl

/-- R141: the byte step depends only on `c ^ b`. -/
theorem crcStep_zero_xor (poly c b : Byte) : crcStep poly 0#8 (c ^^^ b) = crcStep poly c b := by
  rw [crcStep, BitVec.zero_xor, crcStep]

/-- The bit-serial register takes its bits one after the other. -/
theorem crcBitSerial_append (poly c : Byte) (bs bs' : List Bool) :
    Spec.crcBitSerial poly c (bs ++ bs') = Spec.crcBitSerial poly (Spec.crcBitSerial poly c bs) bs' := by
  induction bs generalizing c with
  | nil => rfl
  | cons b bs ih => exact ih _

/-- The key fact of R140: a round on the register with a byte added is the bit-serial step on the byte's top bit, with the rest of the
byte, moved up by one place, still added. -/
theorem crcRound_xor (poly c b : Byte) :
    crcRound poly (c ^^^ b) = Spec.crcBitSerial poly c [b.getLsbD 7] ^^^ (b <<< 1) := by
  have shift : (c ^^^ b) <<< 1 = (c <<< 1) ^^^ (b <<< 1) := BitVec.shiftLeft_xor_distrib c b 1
  rw [crcRound, BitVec.getLsbD_xor, shift]
  show _ = (if c.getLsbD 7 != b.getLsbD 7 then (c <<< 1) ^^^ poly else c <<< 1) ^^^ (b <<< 1)
  by_cases top : (c.getLsbD 7 != b.getLsbD 7) = true
  · rw [if_pos top, if_pos top, BitVec.xor_assoc, BitVec.xor_comm (b <<< 1), BitVec.xor_assoc]
  · rw [if_neg top, if_neg top]

/-- The `n` highest bits of a byte, most significant first. -/
def topBits : Nat → Byte → List Bool
  | 0, _ => []
  | n + 1, b => b.getLsbD 7 :: topBits n (b <<< 1)

theorem topBits_eight (b : Byte) : topBits 8 b = Spec.bitsOf b := by
  simp [topBits, Spec.bitsOf]

/-- `n` rounds from `c ^ b` feed the register the `n` highest bits of `b`; the bits not yet fed are still added. -/
theorem crcRounds_xor (poly : Byte) (n : Nat) (c b : Byte) :
    (crcRound poly)^[n] (c ^^^ b) = Spec.crcBitSerial poly c (topBits n b) ^^^ (b <<< n) := by
  induction n generalizing c b with
  | zero => simp [topBits, Spec.crcBitSerial]
  | succ n ih =>
    calc (crcRound poly)^[n + 1] (c ^^^ b)
        = (crcRound poly)^[n] (Spec.crcBitSerial poly c [b.getLsbD 7] ^^^ (b <<< 1)) := by
          rw [Function.iterate_succ_apply, crcRound_xor]
      _ = Spec.crcBitSerial poly c (topBits (n + 1) b) ^^^ ((b <<< 1) <<< n) := ih _ _
      _ = Spec.crcBitSerial poly c (topBits (n + 1) b) ^^^ (b <<< (n + 1)) := by
          rw [← BitVec.shiftLeft_add, Nat.add_comm]

/-- R140: the byte step feeds the register the byte's bits, most significant first. -/
theorem crcStep_eq_crcBitSerial (poly c b : Byte) : crcStep poly c b = Spec.crcBitSerial poly c (Spec.bitsOf b) := by
  have gone : b <<< 8 = 0#8 := BitVec.shiftLeft_eq_zero (le_refl 8)
  rw [crcStep_eq_iterate, crcRounds_xor, topBits_eight, gone, BitVec.xor_zero]

theorem foldl_crcStep_eq_crcBitSerial (poly c : Byte) (bs : List Byte) :
    bs.foldl (crcStep poly) c = Spec.crcBitSerial poly c (bs.flatMap Spec.bitsOf) := by
  induction bs generalizing c with
  | nil => rfl
  | cons b bs ih => rw [List.foldl_cons, List.flatMap_cons, crcBitSerial_append, ih, crcStep_eq_crcBitSerial]

/-- R202: a request that selects an operation with no field check is answered with BAD_OPERAND exactly if a reserved bit is set. -/
theorem step_issued_of_wf {op : BitVec 4} {a : OperandBus} {i : Instr} {s t : State} (h : operationOf op a = some i)
    (hwf : i.wf = true) (hx : exec i s = .next t) :
    step (Spec.issued s op a) = .next (if a &&& reservedMask op = 0#32 then t else Spec.answered s 0#40 .badOperand) := by
  rw [step_issued_operation h, hx, apply_ite Host.Outcome.next]
  simp only [hwf, and_true]

/-- R70: where all 32 bits are reserved, the operand must be 0. -/
theorem step_issued_of_noOperand {op : BitVec 4} {a : OperandBus} {i : Instr} {s t : State} (h : operationOf op a = some i)
    (hwf : i.wf = true) (hmask : reservedMask op = BitVec.allOnes 32) (hx : exec i s = .next t) :
    step (Spec.issued s op a) = .next (if a = 0#32 then t else Spec.answered s 0#40 .badOperand) := by
  rw [step_issued_of_wf h hwf hx]
  simp only [hmask, BitVec.and_allOnes]

/-- R146, R148: a response whose code is the verdict, by its two cases. -/
theorem answered_crcVerdict (s : State) (y : ResultBus) (k c : Byte) :
    Spec.answered s y (crcVerdict k c) = if k = c then Spec.answered s y .noError else Spec.answered s y .crcMismatch :=
  apply_ite (Spec.answered s y) (k = c) .noError .crcMismatch

/-- R147: CRC.WORD checksums the word's bytes in wire order. -/
theorem exec_crcWord_extractLsb' (a : OperandBus) (s : State) :
    exec (.crcWord (a.extractLsb' 0 16)) s =
      .next (Spec.answered s ((crc8 s.params [a.extractLsb' 8 8, a.extractLsb' 0 8]).setWidth 40) .noError) := by
  rw [← wireBytes_extractLsb']
  rfl

/-- R148: the data word of WORD.CHK is `A[23:8]`. -/
theorem wordOfBytes_extractLsb' (a : OperandBus) : wordOfBytes (a.extractLsb' 16 8) (a.extractLsb' 8 8) = a.extractLsb' 8 16 :=
  BitVec.extractLsb'_append_extractLsb'_eq_extractLsb' rfl

/-- R148: WORD.CHK answers the computed checksum and the received word, with the verdict. -/
theorem exec_wordChk_extractLsb' (a : OperandBus) (s : State) :
    exec (.wordChk (a.extractLsb' 16 8) (a.extractLsb' 8 8) (a.extractLsb' 0 8)) s =
      .next (Spec.answered s ((crc8 s.params [a.extractLsb' 16 8, a.extractLsb' 8 8] ++ a.extractLsb' 8 16).setWidth 40)
        (crcVerdict (crc8 s.params [a.extractLsb' 16 8, a.extractLsb' 8 8]) (a.extractLsb' 0 8))) := by
  rw [← wordOfBytes_extractLsb']
  rfl

end Sys2Proof.Machine

open Sys2Proof Sys2Proof.Machine

/-- Settles O25: by the fold over the bytes, each byte step being eight bit-serial steps. -/
theorem crcIsBitSerialDivision : Obligations.CrcIsBitSerialDivision :=
  ⟨fun p bs => foldl_crcStep_eq_crcBitSerial p.crcPoly p.crcInit bs, rfl, rfl⟩

/-- Settles O26: the last byte is the register itself, and a byte step gives zero for that byte alone. -/
theorem residueOfACheckedSequenceIsZero : Obligations.ResidueOfACheckedSequenceIsZero := by
  refine ⟨fun p bs => ?_, fun p d0 d1 c hpoly => ?_, rfl⟩
  · rw [crc8_append, crcStep_self]
  · have feed : crc8 p [d0, d1, c] = crcStep p.crcPoly (crc8 p [d0, d1]) c := crc8_append p [d0, d1] c
    rw [feed, crcStep_eq_zero_iff _ _ _ hpoly, eq_comm]

/-- Settles O27: CRC.INIT takes no operand. -/
theorem crcInitRequest : Obligations.CrcInitRequest :=
  ⟨fun _ _ => step_issued_of_noOperand (i := .crcInit) rfl rfl rfl rfl, rfl⟩

/-- Settles O28: CRC.UPD has no field check. -/
theorem crcUpdRequest : Obligations.CrcUpdRequest := fun _ a =>
  step_issued_of_wf (i := .crcUpd (a.extractLsb' 0 8)) rfl rfl rfl

/-- Settles O29: CRC.RD takes no operand. -/
theorem crcRdRequest : Obligations.CrcRdRequest := fun _ _ =>
  step_issued_of_noOperand (i := .crcRd) rfl rfl rfl rfl

/-- Settles O30: the reserved bits come before the verdict, and the byte fed gives zero exactly if it is the register's own. -/
theorem crcChkRequest : Obligations.CrcChkRequest := by
  refine ⟨fun s a => ⟨?_, fun hpoly => (crcStep_eq_zero_iff _ _ _ hpoly).symm⟩, rfl⟩
  rw [ite_not, ← answered_crcVerdict]
  exact step_issued_of_wf (i := .crcChk (a.extractLsb' 0 8)) rfl rfl rfl

/-- Settles O31: CRC.WORD has no field check. -/
theorem crcWordRequest : Obligations.CrcWordRequest := fun s a =>
  step_issued_of_wf rfl rfl (exec_crcWord_extractLsb' a s)

/-- Settles O32: the reserved bits come before the verdict, and the answer does not depend on the verdict. -/
theorem wordChkRequest : Obligations.WordChkRequest := by
  intro s a
  rw [ite_not, ← answered_crcVerdict]
  exact step_issued_of_wf rfl rfl (exec_wordChk_extractLsb' a s)

/-- Settles O23: the model's byte step is the iterated round. -/
theorem crcStepIsEightRounds : Obligations.CrcStepIsEightRounds :=
  ⟨fun poly c b => ⟨crcStep_eq_iterate poly c b, (crcStep_zero_xor poly c b).symm⟩, rfl⟩

/-- Settles O24: the fold over a list with one more byte. -/
theorem crcOfASequenceIsTheFold : Obligations.CrcOfASequenceIsTheFold :=
  ⟨fun p => ⟨crc8_nil p, crc8_append p⟩, rfl, rfl⟩

end

section
/-! PROOFS. What an error answers and what it leaves (R201, R202). -/

namespace Sys2Proof.Machine

variable {i : Instr} {s t : State} {r : Response}

/-- R24: no instruction writes a table or a parameter. -/
theorem exec_rom_params (h : exec i s = .next t) : t.rom = s.rom ∧ t.params = s.params := by
  obtain ⟨-, y, e, hx⟩ | ⟨-, hx⟩ | ⟨b, -, hx⟩ | ⟨w, p, g, d, -, -, hx⟩ := exec_cases i s <;>
  · cases hx.symm.trans h
    exact ⟨rfl, rfl⟩

/-- R65, R66, R67: the decoder's own errors are ILLEGAL_OP and BAD_OPERAND. -/
theorem decodeRequest_raised {q : Request} {e : ErrCode} (h : decodeRequest q = .raised e) :
    e = .illegalOp ∨ e = .badOperand := by
  unfold decodeRequest at h
  split at h
  · cases h; exact .inl rfl
  · split_ifs at h <;> cases h <;> exact .inr rfl

/-- R146, R148: a verdict other than NONE is CRC_MISMATCH, and the received byte is not the computed one. -/
theorem crcVerdict_of_error {k c : Byte} (h : crcVerdict k c ≠ .noError) : c ≠ k ∧ crcVerdict k c = .crcMismatch :=
  ⟨fun hc => h ((crcVerdict_eq_noError_iff k c).mpr hc.symm), (crcVerdict_cases k c).resolve_left h⟩

/-- R102: CMD.ENC's own error is BAD_OPERAND. -/
theorem execCmdEnc_responds_or_raises (id : BitVec 5) (s : State) :
    (∃ y, execCmdEnc id s = .next (s.respond y .noError)) ∨ execCmdEnc id s = .next (s.raise .badOperand) := by
  unfold execCmdEnc
  split
  · exact .inl ⟨_, rfl⟩
  · exact .inr rfl

/-- R103: CMD.PER's own error is BAD_OPERAND. -/
theorem execCmdPer_responds_or_raises (m : BitVec 3) (q : BitVec 2) (s : State) :
    (∃ y, execCmdPer m q s = .next (s.respond y .noError)) ∨ execCmdPer m q s = .next (s.raise .badOperand) := by
  unfold execCmdPer
  split
  · exact .inl ⟨_, rfl⟩
  · exact .inr rfl

/-- R172: CVT.C2R's own error is RANGE. -/
theorem execCvtC2r_responds_or_raises (cb : BitVec 32) (s : State) :
    (∃ y, execCvtC2r cb s = .next (s.respond y .noError)) ∨ execCvtC2r cb s = .next (s.raise .range) := by
  unfold execCvtC2r
  split
  · exact .inr rfl
  · exact .inl ⟨_, rfl⟩

/-- R202: where an outcome is an answer with NONE or `raise e`, an error answered is `e` with `Y = 0`. -/
theorem response_of_raise {o : Host.Outcome State Fault Refusal} {e : ErrCode}
    (ho : (∃ y, o = .next (s.respond y .noError)) ∨ o = .next (s.raise e)) (h : o = .next t)
    (hr : t.responses = r :: s.responses) (he : r.err ≠ .noError) : r = ⟨0#40, e⟩ := by
  obtain ⟨y, ho⟩ | ho := ho
  · cases ho.symm.trans h; cases hr
    exact absurd rfl he
  · cases ho.symm.trans h; cases hr
    rfl

/-- R201's values for instruction `i` run from `s`: `r` has `Y = 0`, or is the mismatch of CRC.CHK, or that of WORD.CHK. -/
def AnswersError (i : Instr) (s : State) (r : Response) : Prop :=
  (r.err ≠ .crcMismatch ∧ r.y = 0#40)
  ∨ (∃ c, i = .crcChk c ∧ c ≠ s.crcAcc ∧ r = ⟨zext40 s.crcAcc, .crcMismatch⟩)
  ∨ ∃ d0 d1 c, i = .wordChk d0 d1 c ∧ c ≠ crc8 s.params [d0, d1]
      ∧ r = ⟨zext40 (crc8 s.params [d0, d1] ++ wordOfBytes d0 d1), .crcMismatch⟩

/-- R201: an error answered by an instruction records the values of the table; a mismatch comes from CRC.CHK or WORD.CHK only. -/
theorem exec_answersError (h : exec i s = .next t) (hr : t.responses = r :: s.responses) (he : r.err ≠ .noError) :
    AnswersError i s r := by
  cases i with
  | cmdEnc id =>
    obtain rfl := response_of_raise (execCmdEnc_responds_or_raises id s) h hr he
    exact .inl ⟨nofun, rfl⟩
  | cmdPer m q =>
    obtain rfl := response_of_raise (execCmdPer_responds_or_raises m q s) h hr he
    exact .inl ⟨nofun, rfl⟩
  | cvtC2r cb =>
    obtain rfl := response_of_raise (execCvtC2r_responds_or_raises cb s) h hr he
    exact .inl ⟨nofun, rfl⟩
  | crcChk c =>
    cases h; cases hr
    obtain ⟨hc, hv⟩ := crcVerdict_of_error he
    exact .inr (.inl ⟨c, rfl, hc, congrArg _ hv⟩)
  | wordChk d0 d1 c =>
    cases h; cases hr
    obtain ⟨hc, hv⟩ := crcVerdict_of_error he
    exact .inr (.inr ⟨d0, d1, c, rfl, hc, congrArg _ hv⟩)
  | framePay | statDec | crcInit | crcUpd | crcRd | crcWord | cvtR2c | alrtDec | alrtEnc =>
    cases h; cases hr
    exact absurd rfl he
  | _ =>
    cases h
    exact absurd hr.symm (List.cons_ne_self _ _)

/-- The step takes the word issued first and leaves the events that were pending. -/
theorem step_issueFirst (s : State) (w : InstrWord) : step (s.issueFirst w) = runWord w s :=
  step_cons (s.issueFirst w) _ s.inbox rfl

/-- R201: the result bus of WORD.CHK is the received word below the computed checksum, and zero above (R61). -/
theorem zext40_checksum_word (k : Byte) (w : Word16) :
    (zext40 (k ++ w)).extractLsb' 0 16 = w ∧ (zext40 (k ++ w)).extractLsb' 16 8 = k
      ∧ (zext40 (k ++ w)).extractLsb' 24 16 = 0#16 := by
  refine ⟨(BitVec.extractLsb'_setWidth_of_le (by decide)).trans BitVec.extractLsb'_append_eq_right,
    (BitVec.extractLsb'_setWidth_of_le (by decide)).trans BitVec.extractLsb'_append_eq_left, ?_⟩
  rw [zext40, BitVec.setWidth_eq_append (by decide)]
  exact BitVec.extractLsb'_append_eq_left

end Sys2Proof.Machine

open Sys2Proof Sys2Proof.Machine

/-- Settles O14: the decoder's errors answer `Y = 0` from the state untouched; an instruction that answers an error writes neither
`CRC_ACC` nor a table, and `Y` is R201's. -/
theorem errorsWriteNoState : Obligations.ErrorsWriteNoState := by
  intro s t q r hstep hr he
  have hrun : runWord (.req36 q) s = .next t := (step_issueFirst s _).symm.trans hstep
  cases hd : decode (.req36 q) with
  | instr i =>
    have hx : exec i s = .next t := (runWord_instr _ i s hd).symm.trans hrun
    obtain ⟨hrom, hparams⟩ := exec_rom_params hx
    refine ⟨exec_crcAcc_of_error hx hr he, hrom, hparams, ?_⟩
    obtain ⟨hne, hy⟩ | ⟨c, rfl, hc, rfl⟩ | ⟨d0, d1, c, rfl, hc, rfl⟩ := exec_answersError hx hr he
    · exact ⟨fun _ => hy, fun hm => absurd hm hne⟩
    · exact ⟨fun hne => absurd rfl hne, fun _ => .inl ⟨c, rfl, hc, rfl⟩⟩
    · exact ⟨fun hne => absurd rfl hne, fun _ => .inr ⟨d0, d1, c, rfl, hc, zext40_checksum_word _ _⟩⟩
  | raised e =>
    cases (runWord_raised _ e s hd).symm.trans hrun
    cases hr
    refine ⟨rfl, rfl, rfl, fun _ => rfl, fun hm => ?_⟩
    obtain rfl | rfl := decodeRequest_raised hd <;> cases hm
  | unlisted => exact absurd hd (decodeRequest_ne_unlisted q)

end

section
/-! PROOFS. The encoder and the decoder are inverse to each other (R64, R70, R73), on requests and on wire words. -/

namespace Sys2Proof

/-- R65: a field wholly under the mask of the reserved bits is zero where none of them is set. -/
theorem extractLsb'_eq_zero_of_masked {a m : OperandBus} (h : a &&& m = 0#32) (i n : Nat)
    (hm : m.extractLsb' i n = BitVec.allOnes n) : a.extractLsb' i n = 0#n := by
  have hf := congrArg (BitVec.extractLsb' i n) h
  rwa [BitVec.extractLsb'_and, hm, BitVec.and_allOnes, BitVec.extractLsb'_zero] at hf

/-- R64: an operand is its low field, zero-extended, where no bit above the field is set. -/
theorem setWidth_extractLsb'_of_masked {a m : OperandBus} (h : a &&& m = 0#32) (n : Nat)
    (hm : m.extractLsb' n (32 - n) = BitVec.allOnes (32 - n)) : (a.extractLsb' 0 n).setWidth 32 = a := by
  have high := extractLsb'_eq_zero_of_masked h n (32 - n) hm
  apply BitVec.eq_of_getLsbD_eq
  intro i hi
  by_cases hin : i < n
  · simp [hin, hi]
  · have hbit := congrArg (fun x => x.getLsbD (i - n)) high
    have hin' : i - n < 32 - n := by omega
    have hpos : n + (i - n) = i := by omega
    simp [hpos, hin'] at hbit
    simp [hin, hbit]

/-- R64: CMD.PER's two fields with the reserved bit between them are the low six bits. -/
theorem cmdPer_fields_of_masked {a : OperandBus} (h : a &&& 0xFFFFFFC8#32 = 0#32) :
    (a.extractLsb' 4 2 ++ 0#1 ++ a.extractLsb' 0 3).setWidth 32 = a := by
  have gap : 0#1 = a.extractLsb' 3 1 := (extractLsb'_eq_zero_of_masked h 3 1 (by decide)).symm
  have fields : a.extractLsb' 4 2 ++ a.extractLsb' 3 1 ++ a.extractLsb' 0 3 = a.extractLsb' 0 6 :=
    (congrArg (· ++ a.extractLsb' 0 3) (BitVec.extractLsb'_append_extractLsb'_eq_extractLsb' rfl)).trans
      (BitVec.extractLsb'_append_extractLsb'_eq_extractLsb' rfl)
  rw [gap, fields]
  exact setWidth_extractLsb'_of_masked h 6 (by decide)


/-- R42, R64: the fields of FRAME.PAY are the halves of the operand. -/
theorem halves_append (a : OperandBus) : a.extractLsb' 16 16 ++ a.extractLsb' 0 16 = a :=
  (BitVec.extractLsb'_append_extractLsb'_eq_extractLsb' rfl).trans BitVec.extractLsb'_eq_self

/-- R64: the two bytes of ALRT.DEC are the low half of the operand. -/
theorem bytes_append (a : OperandBus) : a.extractLsb' 8 8 ++ a.extractLsb' 0 8 = a.extractLsb' 0 16 :=
  BitVec.extractLsb'_append_extractLsb'_eq_extractLsb' rfl

/-- R64: a zero half above the two bytes of ALRT.DEC gives the operand. -/
theorem alrtDec_fields_of_masked {a : OperandBus} (h : a &&& 0xFFFF0000#32 = 0#32) :
    0x0000#16 ++ a.extractLsb' 8 8 ++ a.extractLsb' 0 8 = a := by
  have high : 0x0000#16 = a.extractLsb' 16 16 := (extractLsb'_eq_zero_of_masked h 16 16 (by decide)).symm
  rw [BitVec.append_assoc, BitVec.cast_eq, bytes_append, high, halves_append]

/-- R64: a zero byte above the three bytes of WORD.CHK gives the operand. -/
theorem wordChk_fields_of_masked {a : OperandBus} (h : a &&& 0xFF000000#32 = 0#32) :
    0x00#8 ++ a.extractLsb' 16 8 ++ a.extractLsb' 8 8 ++ a.extractLsb' 0 8 = a := by
  have high : 0x00#8 = a.extractLsb' 24 8 := (extractLsb'_eq_zero_of_masked h 24 8 (by decide)).symm
  have upper : a.extractLsb' 24 8 ++ a.extractLsb' 16 8 = a.extractLsb' 16 16 :=
    BitVec.extractLsb'_append_extractLsb'_eq_extractLsb' rfl
  rw [BitVec.append_assoc, BitVec.cast_eq, bytes_append, high, upper, halves_append]

/-- R71: an operation whose operand has no reserved bit set has that operand in its word. -/
theorem encode_of_operationOf {op : BitVec 4} {a : OperandBus} {i : Instr} (h : operationOf op a = some i)
    (hres : a &&& reservedMask op = 0#32) : encode i = .req36 (op ++ a) := by
  have word {b : OperandBus} (e : b = a) : InstrWord.req36 (op ++ b) = .req36 (op ++ a) := by rw [e]
  have low (n : Nat) := setWidth_extractLsb'_of_masked hres n
  have none (hm : reservedMask op = BitVec.allOnes 32) : 0#32 = a := by rw [← hres, hm, BitVec.and_allOnes]
  obtain ⟨n⟩ := op
  fin_cases n
  · cases h; exact word (low 5 (by decide))
  · cases h; exact word (cmdPer_fields_of_masked hres)
  · cases h; exact word (halves_append a)
  · cases h; exact word (low 16 (by decide))
  · cases h; exact word (none rfl)
  · cases h; exact word (low 8 (by decide))
  · cases h; exact word (none rfl)
  · cases h; exact word (low 8 (by decide))
  · cases h; exact word (low 16 (by decide))
  · cases h; exact word (wordChk_fields_of_masked hres)
  · cases h; exact word (low 16 (by decide))
  · cases h; rfl
  · cases h; exact word (alrtDec_fields_of_masked hres)
  · cases h; exact word (low 16 (by decide))
  · cases h
  · cases h

/-- R60: a request is its two parts. -/
theorem opField_append_operandBus (r : Request) : opField r ++ operandBus r = r :=
  (BitVec.extractLsb'_append_extractLsb'_eq_extractLsb' rfl).trans BitVec.extractLsb'_eq_self

/-- R70: a request decodes to the operation its code selects, well-formed, with no reserved bit set. -/
theorem decodeRequest_instr {r : Request} {i : Instr} (h : decodeRequest r = .instr i) :
    operationOf (opField r) (operandBus r) = some i ∧ operandBus r &&& reservedMask (opField r) = 0#32 ∧ i.wf = true := by
  unfold decodeRequest at h
  split at h
  next => cases h
  next i' hop =>
    split_ifs at h with hres hwf
    cases h
    exact ⟨hop, not_not.mp hres, hwf⟩

/-- R100, R101: each row's instruction is well-formed and has the row's word. -/
theorem rows_encode : ∀ row ∈ commandRows ++ periodicRows, row.2.wf = true ∧ encode row.2 = .wire16 row.1 := by
  decide

/-- R100, R101: a wire word that decodes is the word of a row. -/
theorem decodeWire_instr {w : Word16} {i : Instr} (h : decodeWire w = .instr i) : (w, i) ∈ commandRows ++ periodicRows := by
  unfold decodeWire at h
  split at h
  next j hlookup =>
    cases h
    obtain ⟨l, l', hrows, -⟩ := List.lookup_eq_some_iff.mp hlookup
    simp [hrows]
  next => cases h

/-- R65, R67, R70: a request with no reserved bit set and its fields in their enumerations decodes to its operation. -/
theorem decode_request {op : BitVec 4} {a : OperandBus} {i : Instr} (h : operationOf op a = some i)
    (hres : a &&& reservedMask op = 0#32) (hwf : i.wf = true) : decode (.req36 (op ++ a)) = .instr i := by
  rw [decode_operation h, if_neg (not_not_intro hres), if_pos hwf]

/-- A field zero-extended onto the operand bus is read back, if the mask of reserved bits is clear on the field. -/
theorem decode_request_field {n : Nat} (op : BitVec 4) (f : BitVec n → Instr) (hn : n ≤ 32)
    (hop : ∀ a : OperandBus, operationOf op a = some (f (a.extractLsb' 0 n)))
    (hm : reservedMask op &&& (BitVec.allOnes n).setWidth 32 = 0#32) (v : BitVec n) (hwf : (f v).wf = true) :
    decode (.req36 (op ++ v.setWidth 32)) = .instr (f v) :=
  decode_request ((hop _).trans (congrArg (some ∘ f) (extract_setWidth v hn))) (Laws.EncodeMatchesRow.field_masked v _ hm) hwf


/-- R64: FRAME.PAY's fields are read back. -/
theorem operationOf_framePay (cmd p : Word16) : operationOf 0x2#4 (cmd ++ p) = some (.framePay cmd p) :=
  congrArg₂ (fun x y => some (Instr.framePay x y)) BitVec.extractLsb'_append_eq_left BitVec.extractLsb'_append_eq_right

/-- R64: ALRT.DEC's bytes are read back. -/
theorem operationOf_alrtDec (b0 b1 : Byte) : operationOf 0xC#4 (0x0000#16 ++ b0 ++ b1) = some (.alrtDec b0 b1) := by
  have h0 : (0x0000#16 ++ b0 ++ b1).extractLsb' 8 8 = b0 :=
    (BitVec.extractLsb'_append_eq_of_le (le_refl 8)).trans BitVec.extractLsb'_append_eq_right
  have h1 : (0x0000#16 ++ b0 ++ b1).extractLsb' 0 8 = b1 := BitVec.extractLsb'_append_eq_right
  exact congrArg₂ (fun x y => some (Instr.alrtDec x y)) h0 h1

/-- R64: WORD.CHK's bytes are read back. -/
theorem operationOf_wordChk (d0 d1 c : Byte) :
    operationOf 0x9#4 (0x00#8 ++ d0 ++ d1 ++ c) = some (.wordChk d0 d1 c) := by
  have h1 : (0x00#8 ++ d0 ++ d1 ++ c).extractLsb' 8 8 = d1 :=
    (BitVec.extractLsb'_append_eq_of_le (le_refl 8)).trans BitVec.extractLsb'_append_eq_right
  have h0 : (0x00#8 ++ d0 ++ d1 ++ c).extractLsb' 16 8 = d0 :=
    (BitVec.extractLsb'_append_eq_of_le (by decide : 8 ≤ 16)).trans
      ((BitVec.extractLsb'_append_eq_of_le (le_refl 8)).trans BitVec.extractLsb'_append_eq_right)
  have hc : (0x00#8 ++ d0 ++ d1 ++ c).extractLsb' 0 8 = c := BitVec.extractLsb'_append_eq_right
  rw [← congrArg₂ (fun x y => some (Instr.wordChk x y c)) h0 h1]
  exact congrArg (fun z => some (Instr.wordChk _ _ z)) hc

/-- R65: no reserved bit is set above the bytes of ALRT.DEC. -/
theorem alrtDec_fields_masked (b0 b1 : Byte) : (0x0000#16 ++ b0 ++ b1) &&& 0xFFFF0000#32 = 0#32 := by
  have hm : 0xFFFF0000#32 = 0xFFFF#16 ++ 0x00#8 ++ 0x00#8 := rfl
  rw [hm, BitVec.and_append, BitVec.and_append, BitVec.zero_and, BitVec.and_zero, BitVec.and_zero]
  rfl

/-- R65: no reserved bit is set above the bytes of WORD.CHK. -/
theorem wordChk_fields_masked (d0 d1 c : Byte) : (0x00#8 ++ d0 ++ d1 ++ c) &&& 0xFF000000#32 = 0#32 := by
  have hm : 0xFF000000#32 = 0xFF#8 ++ 0x00#8 ++ 0x00#8 ++ 0x00#8 := rfl
  rw [hm, BitVec.and_append, BitVec.and_append, BitVec.and_append, BitVec.zero_and, BitVec.and_zero, BitVec.and_zero,
    BitVec.and_zero]
  rfl

/-- R69: every pair of CMD.PER inside its enumerations is read back. -/
theorem decode_encode_cmdPer : ∀ (m : BitVec 3) (r : BitVec 2), (Instr.cmdPer m r).wf = true →
    decode (encode (.cmdPer m r)) = .instr (.cmdPer m r) := by
  decide

end Sys2Proof

open Sys2Proof Sys2Proof.Machine

/-- Settles O3: a request's word is its code and its operand, whose reserved bits are clear; a wire word is the word of a row. -/
theorem decodedWordIsTheEncoding : Obligations.DecodedWordIsTheEncoding := by
  intro w i h
  cases w with
  | req36 r =>
    obtain ⟨hop, hres, hwf⟩ := decodeRequest_instr h
    exact ⟨hwf, (encode_of_operationOf hop hres).trans (congrArg _ (opField_append_operandBus r))⟩
  | wire16 w => exact rows_encode _ (decodeWire_instr h)

/-- Settles O2: each operation's fields are read back from its word, whose reserved bits are clear; a command word's row is found. -/
theorem decodeOfEncodeIsTheInstruction : Obligations.DecodeOfEncodeIsTheInstruction := by
  intro i hwf
  cases i with
  | cmdEnc id => exact decode_request_field 0x0#4 _ (by decide) (fun _ => rfl) (by decide) id hwf
  | cmdPer m r => exact decode_encode_cmdPer m r hwf
  | framePay cmd p => exact decode_request (operationOf_framePay cmd p) BitVec.and_zero rfl
  | statDec w => exact decode_request_field 0x3#4 _ (by decide) (fun _ => rfl) (by decide) w hwf
  | crcInit => rfl
  | crcUpd b => exact decode_request_field 0x5#4 _ (by decide) (fun _ => rfl) (by decide) b hwf
  | crcRd => rfl
  | crcChk c => exact decode_request_field 0x7#4 _ (by decide) (fun _ => rfl) (by decide) c hwf
  | crcWord d => exact decode_request_field 0x8#4 _ (by decide) (fun _ => rfl) (by decide) d hwf
  | wordChk d0 d1 c => exact decode_request (operationOf_wordChk d0 d1 c) (wordChk_fields_masked d0 d1 c) rfl
  | cvtR2c v => exact decode_request_field 0xA#4 _ (by decide) (fun _ => rfl) (by decide) v hwf
  | cvtC2r cb => exact decode_request rfl BitVec.and_zero rfl
  | alrtDec b0 b1 => exact decode_request (operationOf_alrtDec b0 b1) (alrtDec_fields_masked b0 b1) rfl
  | alrtEnc lim => exact decode_request_field 0xD#4 _ (by decide) (fun _ => rfl) (by decide) lim hwf
  | _ => rfl

/-- Settles O1: the words are those of O2's encoder, and the decoder evaluates on each. -/
theorem handWrittenWordsDecode : Obligations.HandWrittenWordsDecode :=
  have round (i : Instr) (hwf : i.wf = true) := decodeOfEncodeIsTheInstruction i hwf
  ⟨round (.cmdEnc 0#5) rfl, round (.cmdPer 4#3 2#2) rfl, round (.framePay 0x611D#16 0x3E80#16) rfl, round (.crcUpd 0xBE#8) rfl,
    round (.wordChk 0x66#8 0x66#8 0x93#8) rfl, round (.cvtC2r 0x41C80000#32) rfl, round (.alrtDec 0x3E#8 0x80#8) rfl,
    round .cmdSoftreset rfl, round .cmdPeriodic10MpsHigh rfl⟩

end

section
/-! PROOFS. What a step can do, said once, and what it keeps: the frame of the instructions (R24, R25, R61), the machine's invariant, and
that every request is answered (R70) while only an unlisted wire word is refused (log 5). -/

namespace Sys2Proof.Machine

variable {i : Instr} {s t : State}

/-- R25, R61: the frame of an instruction, by its kind: an operation answers once, a command word sends one record with a shape of
R110. -/
inductive Frame (i : Instr) (s t : State) : Prop where
  | operation (word : ∃ q, encode i = .req36 q) (responses : ∃ r, t.responses = r :: s.responses) (wire : t.wire = s.wire)
  | command (word : ∃ w, encode i = .wire16 w) (acc : t.crcAcc = s.crcAcc) (responses : t.responses = s.responses)
      (wire : ∃ c, t.wire = c :: s.wire ∧ c.wf = true)

/-- Every instruction keeps the frame of its kind. -/
theorem exec_frame (h : exec i s = .next t) : Frame i s t := by
  obtain ⟨⟨word, -⟩, y, e, hx⟩ | ⟨rfl, hx⟩ | ⟨b, rfl, hx⟩ | ⟨w, p, g, d, word, hshape, hx⟩ := exec_cases i s
  · cases hx.symm.trans h
    exact .operation word ⟨_, rfl⟩ rfl
  · cases hx.symm.trans h
    exact .operation ⟨_, rfl⟩ ⟨_, rfl⟩ rfl
  · cases hx.symm.trans h
    exact .operation ⟨_, rfl⟩ ⟨_, rfl⟩ rfl
  · cases hx.symm.trans h
    refine .command ⟨w, word⟩ rfl rfl ⟨_, rfl, ?_⟩
    simpa [WireCommand.wf, and_assoc] using hshape

/-- R49: no instruction takes an event. -/
theorem exec_inbox (h : exec i s = .next t) : t.inbox = s.inbox := by
  obtain ⟨-, y, e, hx⟩ | ⟨-, hx⟩ | ⟨b, -, hx⟩ | ⟨w, p, g, d, -, -, hx⟩ := exec_cases i s <;>
  · cases hx.symm.trans h
    rfl

/-- R200: every instruction completes. -/
theorem exec_completes (i : Instr) (s : State) : ∃ t, exec i s = .next t := by
  obtain ⟨-, y, e, hx⟩ | ⟨-, hx⟩ | ⟨b, -, hx⟩ | ⟨w, p, g, d, -, -, hx⟩ := exec_cases i s <;>
  exact ⟨_, hx⟩

/-- R70: a word the decoder takes or raises completes. -/
theorem runWord_completes {w : InstrWord} (h : decode w ≠ .unlisted) (s : State) : ∃ t, runWord w s = .next t := by
  cases hd : decode w with
  | instr i => exact (exec_completes i s).imp fun t ht => (runWord_instr w i s hd).trans ht
  | raised e => exact ⟨_, runWord_raised w e s hd⟩
  | unlisted => exact absurd hd h

/-- R25: with nothing pending the block waits (log 6). -/
theorem step_nil (h : s.inbox = []) : step s = .next s := by
  simp [step, takeEvent, h]

/-- What a step that goes on has done: it has waited, or it has taken the oldest event and reset the block, run an instruction or raised
the decoder's error. -/
theorem step_cases (h : step s = .next t) :
    t = s ∨ ∃ rest, t = (s.withInbox rest).resetBlock ∨ (∃ i, exec i (s.withInbox rest) = .next t)
      ∨ ∃ e, t = (s.withInbox rest).raise e := by
  cases hin : s.inbox with
  | nil =>
    cases (step_nil hin).symm.trans h
    exact .inl rfl
  | cons e rest =>
    have hrun : runEvent e (s.withInbox rest) = .next t := (step_cons s e rest hin).symm.trans h
    refine .inr ⟨rest, ?_⟩
    cases e with
    | reset q =>
      cases hrun
      exact .inl rfl
    | issue w =>
      cases hd : decode w with
      | instr i => exact .inr (.inl ⟨i, (runWord_instr w i _ hd).symm.trans hrun⟩)
      | raised e =>
        cases (runWord_raised w e _ hd).symm.trans hrun
        exact .inr (.inr ⟨e, rfl⟩)
      | unlisted => cases (runWord_unlisted w _ hd).symm.trans hrun

/-- R61: an operation answers once, and only `CRC_ACC` may change beside it. -/
theorem exec_operation {q : Request} (hi : encode i = .req36 q) (s : State) :
    ∃ acc r, exec i s = .next { s with crcAcc := acc, responses := r :: s.responses } := by
  obtain ⟨-, y, e, hx⟩ | ⟨-, hx⟩ | ⟨b, -, hx⟩ | ⟨w, p, g, d, hw, -, -⟩ := exec_cases i s
  · exact ⟨_, _, hx⟩
  · exact ⟨_, _, hx⟩
  · exact ⟨_, _, hx⟩
  · cases hi.symm.trans hw

/-- R70: every 36-bit word is answered once, and only `CRC_ACC` may change beside it. -/
theorem runWord_request (q : Request) (s : State) :
    ∃ acc r, runWord (.req36 q) s = .next { s with crcAcc := acc, responses := r :: s.responses } := by
  cases hd : decode (.req36 q) with
  | instr i =>
    obtain ⟨acc, r, hx⟩ := exec_operation (decodedWordIsTheEncoding _ i hd).2 s
    exact ⟨acc, r, (runWord_instr _ i s hd).trans hx⟩
  | raised e => exact ⟨_, _, runWord_raised _ e s hd⟩
  | unlisted => exact absurd hd (decodeRequest_ne_unlisted q)

/-- Log 5: only a request raises an error. -/
theorem decodeWire_ne_raised (w : Word16) (e : ErrCode) : decodeWire w ≠ .raised e := by
  unfold decodeWire
  split <;> exact nofun

/-- R200, log 5: a listed event completes. -/
theorem runEvent_completes {e : HostEvent} (h : e.listed = true) (s : State) : ∃ t, runEvent e s = .next t := by
  cases e with
  | reset q => exact ⟨_, rfl⟩
  | issue w =>
    cases w with
    | req36 q => exact runWord_completes (w := .req36 q) (decodeRequest_ne_unlisted q) s
    | wire16 w => exact runWord_completes (w := .wire16 w) (of_decide_eq_true h) s

/-- A run of one step more. -/
theorem run_succ (h : step s = .next t) (k : Nat) : core.run (k + 1) s = core.run k t := by
  have hstep : core.step s = .next t := h
  simp only [Host.Core.run, hstep]

/-! ## The invariant -/

/-- R202: an error with `Y = 0` has the form of R201. -/
theorem Response.wf_zero (e : ErrCode) : (Response.mk 0#40 e).wf = true := by
  cases e <;> rfl

/-- R201: a mismatch answers at most 24 bits. -/
theorem Response.wf_mismatch {n : Nat} (v : BitVec n) (h : n ≤ 24) : (Response.mk (zext40 v) .crcMismatch).wf = true := by
  refine decide_eq_true ?_
  rw [zext40_toNat v (h.trans (by decide))]
  exact v.isLt.trans_le (Nat.pow_le_pow_right two_pos h)

/-- R201, R202: the response of an instruction has their form. -/
theorem exec_response_wf {r : Response} (h : exec i s = .next t) (hr : t.responses = r :: s.responses) : r.wf = true := by
  obtain ⟨y, e⟩ := r
  by_cases he : e = .noError
  · subst he
    rfl
  · obtain ⟨-, rfl⟩ | ⟨c, -, -, hr⟩ | ⟨d0, d1, c, -, -, hr⟩ := exec_answersError h hr he
    · exact Response.wf_zero e
    · exact hr ▸ Response.wf_mismatch _ (by decide)
    · exact hr ▸ Response.wf_mismatch _ (by decide)

namespace State

theorem Inv.withInbox (h : s.Inv) (l : List HostEvent) : (s.withInbox l).Inv :=
  ⟨h.rom_wf, h.params_wf, h.responses_wf, h.wire_wf⟩

theorem Inv.resetBlock (h : s.Inv) : s.resetBlock.Inv :=
  ⟨h.rom_wf, h.params_wf, h.responses_wf, h.wire_wf⟩

theorem Inv.raise (h : s.Inv) (e : ErrCode) : (s.raise e).Inv :=
  ⟨h.rom_wf, h.params_wf, List.forall_mem_cons.mpr ⟨Response.wf_zero e, h.responses_wf⟩, h.wire_wf⟩

/-- An instruction's response and its record on the wire have their forms; the rest of the invariant is its frame. -/
theorem Inv.exec (h : s.Inv) (hx : exec i s = .next t) : t.Inv := by
  obtain ⟨hrom, hparams⟩ := exec_rom_params hx
  have rom_wf : t.rom.wf = true := hrom ▸ h.rom_wf
  have params_wf : t.params.wf = true := hparams ▸ h.params_wf
  cases exec_frame hx with
  | operation _ responses wire =>
    obtain ⟨r, hr⟩ := responses
    refine ⟨rom_wf, params_wf, ?_, wire ▸ h.wire_wf⟩
    rw [hr]
    exact List.forall_mem_cons.mpr ⟨exec_response_wf hx hr, h.responses_wf⟩
  | command _ _ responses wire =>
    obtain ⟨c, hc, hwf⟩ := wire
    refine ⟨rom_wf, params_wf, responses ▸ h.responses_wf, ?_⟩
    rw [hc]
    exact List.forall_mem_cons.mpr ⟨hwf, h.wire_wf⟩

end State

end Sys2Proof.Machine

open Sys2Proof Sys2Proof.Machine

/-- Settles O21: a wait, a reset, an instruction and a raised error each keep the invariant. -/
theorem everyStepKeepsTheInvariant : Obligations.EveryStepKeepsTheInvariant := by
  intro s t hs h
  obtain rfl | ⟨rest, rfl | ⟨i, hx⟩ | ⟨e, rfl⟩⟩ := step_cases h
  · exact hs
  · exact (hs.withInbox rest).resetBlock
  · exact (hs.withInbox rest).exec hx
  · exact (hs.withInbox rest).raise e

/-- Settles O22: the reference tables and parameters hold what the document fixes, and nothing has been answered or sent. -/
theorem resetMeetsTheInvariant : Obligations.ResetMeetsTheInvariant :=
  ⟨by decide, by decide, List.forall_mem_nil _, List.forall_mem_nil _⟩

/-- Settles O18: none of the four things a step can do writes a table or a parameter. -/
theorem noStepChangesTheTables : Obligations.NoStepChangesTheTables := by
  intro s t h
  obtain rfl | ⟨rest, rfl | ⟨i, hx⟩ | ⟨e, rfl⟩⟩ := step_cases h
  · exact ⟨rfl, rfl⟩
  · exact ⟨rfl, rfl⟩
  · exact (exec_rom_params hx :)
  · exact ⟨rfl, rfl⟩

/-- Settles O17: an operation's word is no command word, nor the other way round, and each kind has its frame. -/
theorem instructionsKeepTheirFrame : Obligations.InstructionsKeepTheirFrame := by
  intro i s t h
  obtain ⟨hrom, hparams⟩ := exec_rom_params h
  refine ⟨hrom, hparams, exec_inbox h, ?_⟩
  cases exec_frame h with
  | operation word responses wire =>
    obtain ⟨q, hq⟩ := word
    exact ⟨fun _ _ => ⟨wire, responses⟩, fun w hw => nomatch hq.symm.trans hw⟩
  | command word acc responses wire =>
    obtain ⟨w, hw⟩ := word
    exact ⟨fun q hq => (nomatch hw.symm.trans hq), fun _ _ => ⟨acc, responses, wire.imp fun _ hc => hc.1⟩⟩

/-- Settles O10: the step takes the word, which is answered once. -/
theorem everyRequestGetsExactlyOneResponse : Obligations.EveryRequestGetsExactlyOneResponse := by
  intro s q
  obtain ⟨acc, r, h⟩ := runWord_request q s
  exact ⟨acc, r, (step_issueFirst s _).trans h⟩

/-- Settles O11, by induction on the pending requests, each answered by the step that takes it. -/
theorem allPendingRequestsAreAnswered : Obligations.AllPendingRequestsAreAnswered := by
  intro s rs
  induction rs generalizing s with
  | nil => exact fun hin => ⟨s, rfl, hin, rfl, rfl, rfl, [], rfl, rfl⟩
  | cons q rs ih =>
    intro hin
    obtain ⟨acc, r, h⟩ := runWord_request q (s.withInbox (rs.map fun q => .issue (.req36 q)))
    obtain ⟨t, hrun, hdone, hrom, hparams, hwire, new, hlen, hnew⟩ :=
      ih { s with inbox := rs.map fun q => .issue (.req36 q), crcAcc := acc, responses := r :: s.responses } rfl
    refine ⟨t, (run_succ ((step_cons s _ _ hin).trans h) rs.length).trans hrun, hdone, hrom, hparams, hwire, new ++ [r], ?_, ?_⟩
    · simp [hlen]
    · simp [hnew]

/-- Settles O12: with nothing pending the step waits, and a listed event completes. -/
theorem listedEventsNeverStopTheMachine : Obligations.ListedEventsNeverStopTheMachine := by
  intro s h
  cases hin : s.inbox with
  | nil => exact ⟨s, step_nil hin⟩
  | cons e rest => exact (runEvent_completes (h e rest hin) _).imp fun t ht => (step_cons s e rest hin).trans ht

/-- Settles O13: a wire word raises nothing, and one that decodes is an instruction's encoding (O3). -/
theorem unlistedWireWordIsRefused : Obligations.UnlistedWireWordIsRefused := by
  intro s w rest hin hw
  rw [step_cons s _ rest hin]
  cases hd : decode (.wire16 w) with
  | instr i => exact absurd (decodedWordIsTheEncoding _ i hd).2 (hw i)
  | raised e => exact absurd hd (decodeWire_ne_raised w e)
  | unlisted =>
    refine (runWord_unlisted _ _ hd).trans ?_
    rw [InstrWord.bits, BitVec.ofNat_toNat, BitVec.setWidth_eq]

/-- Settles O5: the step takes the word and runs what it decodes to. -/
theorem stepRunsTheDecodedInstruction : Obligations.StepRunsTheDecodedInstruction := fun s w rest i hin hd =>
  (step_cons s _ rest hin).trans (runWord_instr w i _ hd)

/-- Settles O6: the step takes the word and raises the decoder's code. -/
theorem stepAnswersDecoderErrors : Obligations.StepAnswersDecoderErrors := fun s w rest e hin hd =>
  (step_cons s _ rest hin).trans (runWord_raised w e _ hd)

/-- Settles O8: with nothing pending there is no event to take. -/
theorem stepWaitsWhenNothingIsPending : Obligations.StepWaitsWhenNothingIsPending := fun _ => step_nil

/-- Settles O9: a reset event is taken like any other and writes `CRC_INIT`. -/
theorem resetPutsTheAccumulatorAtCrcInit : Obligations.ResetPutsTheAccumulatorAtCrcInit :=
  ⟨⟨reset_crcAcc, (crc8_nil _).symm, rfl, rfl⟩,
    fun t p => ⟨built_crcAcc t p, (crc8_nil p).symm, built_rom t p, built_params t p, built_inbox t p, built_responses t p⟩,
    fun s q => step_cons _ (.reset q) s.inbox rfl⟩

/-- Settles O15, code by code. -/
theorem errorCodesAreNumbered : Obligations.ErrorCodesAreNumbered := by
  refine ⟨rfl, rfl, rfl, rfl, rfl, fun e => ?_⟩
  cases e <;> decide

end

section
/-! PROOFS. What an instruction does not read: the responses and commands of the past (R22, R205); and which operations are idempotent
(R48). -/

namespace Sys2Proof.Machine

variable {i : Instr} {s t : State} {l : List Response} {ws : List WireCommand}

/-- R102: an id above the table is refused (log 12). -/
theorem exec_cmdEnc_of_not_lt {id : BitVec 5} (h : ¬ id.toNat < 19) (s : State) :
    exec (.cmdEnc id) s = .next (s.respond 0#40 .badOperand) :=
  dif_neg h

/-- R103: a pair of the tables answers its high byte and its suffix. -/
theorem exec_cmdPer_of_lt {m : BitVec 3} {r : BitVec 2} (hm : m.toNat < 5) (hr : r.toNat < 3) (s : State) :
    exec (.cmdPer m r) s =
      .next (Spec.answered s ((s.rom.perHi[m.toNat] ++ s.rom.perLo[m.toNat][r.toNat]).setWidth 40) .noError) :=
  dif_pos ⟨hm, hr⟩

/-- R103: a pair outside the tables is refused (log 12). -/
theorem exec_cmdPer_of_not_lt {m : BitVec 3} {r : BitVec 2} (h : ¬ (m.toNat < 5 ∧ r.toNat < 3)) (s : State) :
    exec (.cmdPer m r) s = .next (s.respond 0#40 .badOperand) :=
  dif_neg h

/-- R172: where there is no raw code, RANGE. -/
theorem exec_cvtC2r_of_none {cb : BitVec 32} (h : celsiusToRaw cb = none) (s : State) :
    exec (.cvtC2r cb) s = .next (Spec.answered s 0#40 .range) := by
  change execCvtC2r cb s = _
  rw [execCvtC2r, h]
  rfl

/-- R172: the raw code, with NONE. -/
theorem exec_cvtC2r_of_some {cb : BitVec 32} {raw : Word16} (h : celsiusToRaw cb = some raw) (s : State) :
    exec (.cvtC2r cb) s = .next (Spec.answered s (raw.setWidth 40) .noError) := by
  change execCvtC2r cb s = _
  rw [execCvtC2r, h]
  rfl

/-- `s` with other responses delivered and other commands sent. -/
def State.withRecords (s : State) (l : List Response) (ws : List WireCommand) : State := { s with responses := l, wire := ws }

/-- The outcome `o` has the effect that leads from `s` to `t`, on top of other records: the same `CRC_ACC`, and the response or the
command that `t` has more than `s`. -/
def SameEffect (s t : State) (l : List Response) (ws : List WireCommand) (o : Host.Outcome State Fault Refusal) : Prop :=
  ∃ t', o = .next t' ∧ t'.crcAcc = t.crcAcc ∧ (∀ r, t.responses = r :: s.responses → t'.responses = r :: l)
    ∧ ∀ c, t.wire = c :: s.wire → t'.wire = c :: ws

/-- An answer is the same on top of other records. -/
theorem sameEffect_respond (s : State) (a : Byte) (y : ResultBus) (e : ErrCode) (l : List Response) (ws : List WireCommand) :
    SameEffect s ((s.writeAcc a).respond y e) l ws (.next (((s.withRecords l ws).writeAcc a).respond y e)) := by
  refine ⟨_, rfl, rfl, fun r hr => ?_, fun c hc => absurd hc.symm (List.cons_ne_self c s.wire)⟩
  cases hr
  rfl

/-- An operation whose answer is a function of the state that does not see the records has the same effect on top of others. -/
theorem sameEffect_of_answers {o : State → Host.Outcome State Fault Refusal} {y : State → ResultBus} {e : ErrCode}
    (ho : ∀ s, o s = .next (s.respond (y s) e)) (hy : y (s.withRecords l ws) = y s) (h : o s = .next t) :
    SameEffect s t l ws (o (s.withRecords l ws)) := by
  cases (ho s).symm.trans h
  rw [ho, hy]
  exact sameEffect_respond s s.crcAcc _ _ l ws

/-- A command sent is the same on top of other records. -/
theorem sameEffect_sendCommand (s : State) (w : Word16) (p g : Nat) (d : DataMeaning) (l : List Response)
    (ws : List WireCommand) : SameEffect s (s.sendCommand w p g d) l ws (.next ((s.withRecords l ws).sendCommand w p g d)) := by
  refine ⟨_, rfl, rfl, fun r hr => absurd hr.symm (List.cons_ne_self r s.responses), fun c hc => ?_⟩
  cases hc
  rfl

/-- R22, R205: no instruction reads the records. -/
theorem exec_withRecords (h : exec i s = .next t) (l : List Response) (ws : List WireCommand) :
    SameEffect s t l ws (exec i (s.withRecords l ws)) := by
  cases i with
  | cmdEnc id =>
    by_cases hid : id.toNat < 19
    · exact sameEffect_of_answers (exec_cmdEnc_of_lt hid) rfl h
    · exact sameEffect_of_answers (exec_cmdEnc_of_not_lt hid) rfl h
  | cmdPer m r =>
    by_cases hmr : m.toNat < 5 ∧ r.toNat < 3
    · exact sameEffect_of_answers (exec_cmdPer_of_lt hmr.1 hmr.2) rfl h
    · exact sameEffect_of_answers (exec_cmdPer_of_not_lt hmr) rfl h
  | cvtC2r cb =>
    cases hraw : celsiusToRaw cb with
    | none => exact sameEffect_of_answers (exec_cvtC2r_of_none hraw) rfl h
    | some raw => exact sameEffect_of_answers (exec_cvtC2r_of_some hraw) rfl h
  | framePay | statDec | crcInit | crcUpd | crcRd | crcChk | crcWord | wordChk | cvtR2c | alrtDec | alrtEnc =>
    cases h
    exact sameEffect_respond s _ _ _ l ws
  | _ =>
    cases h
    exact sameEffect_sendCommand s _ _ _ _ l ws

/-- R48: an operation that only answers leaves a state that differs in the responses alone, which no operation reads. -/
theorem exec_again_of_answers (hi : Answers i) (h : exec i s = .next t) :
    ∃ u, exec i t = .next u ∧ u.crcAcc = t.crcAcc ∧ ∀ r, t.responses = r :: s.responses → u.responses = r :: t.responses := by
  obtain ⟨-, y, e, hx⟩ | ⟨rfl, -⟩ | ⟨b, rfl, -⟩ | ⟨w, p, g, d, hw, -, -⟩ := exec_cases i s
  · cases hx.symm.trans h
    obtain ⟨u, hu, hacc, hresp, -⟩ := exec_withRecords h (s.respond y e).responses s.wire
    exact ⟨u, hu, hacc, hresp⟩
  · exact absurd rfl hi.2.1
  · exact absurd rfl (hi.2.2 b)
  · obtain ⟨⟨q, hq⟩, -⟩ := hi
    cases hq.symm.trans hw

end Sys2Proof.Machine

open Sys2Proof Sys2Proof.Machine

/-- Settles O19: an answer or a command sent does not depend on the records below it. -/
theorem pastResponsesAreNeverRead : Obligations.PastResponsesAreNeverRead := fun _ _ _ l ws h => exec_withRecords h l ws

/-- Settles O20: CRC.INIT writes the same value again, every other operation only answers; CRC.UPD with the register's own byte leaves
zero, from which the same byte, not being zero, leaves another value. -/
theorem onlyCrcUpdIsNotIdempotent : Obligations.OnlyCrcUpdIsNotIdempotent := by
  refine ⟨fun i q s t hq hupd h => ?_, 0xFF#8, State.reset, _, _, rfl, rfl, ?_⟩
  · by_cases hinit : i = .crcInit
    · subst hinit
      cases h
      refine ⟨_, rfl, rfl, fun r hr => ?_⟩
      cases hr
      rfl
    · exact exec_again_of_answers ⟨⟨q, hq⟩, hinit, hupd⟩ h
  · have zero : crcStep State.reset.params.crcPoly State.reset.crcAcc 0xFF#8 = 0#8 := crcStep_self _ _
    simp only [respond_crcAcc, writeAcc_crcAcc, respond_params, writeAcc_params, zero]
    exact fun h => absurd ((crcStep_eq_zero_iff _ _ _ rfl).mp h) (by decide)

end

section
/-! PROOFS. The checksum operations as they are issued (R74, R143 to R148), and the validity and the reading of a response frame (R110,
R149). -/

namespace Sys2Proof.Machine

variable {s t : State}

/-- A run of instructions issued one after the other. -/
theorem run_events_cons {i : Instr} {is : List Instr} {rest : List HostEvent} (hwf : i.wf = true)
    (hin : s.inbox = Spec.events (i :: is) ++ rest) (hx : exec i (s.withInbox (Spec.events is ++ rest)) = .next t) (k : Nat) :
    core.run (k + 1) s = core.run k t :=
  run_succ ((step_cons s _ _ hin).trans ((runWord_instr _ i _ (decodeOfEncodeIsTheInstruction i hwf)).trans hx)) k

/-- `s` with `c` in the register and answered with NONE, on top of the responses `l`, and the events `rest` pending. -/
def State.registerAnswered (s : State) (c : Byte) (l : List Response) (rest : List HostEvent) : State :=
  { s with crcAcc := c, inbox := rest, responses := ⟨zext40 c, .noError⟩ :: l }

/-- R143: CRC.INIT pending. -/
theorem run_crcInit {is : List Instr} {rest : List HostEvent} (hin : s.inbox = Spec.events (.crcInit :: is) ++ rest) (k : Nat) :
    core.run (k + 1) s = core.run k (s.registerAnswered s.params.crcInit s.responses (Spec.events is ++ rest)) :=
  run_events_cons rfl hin rfl k

/-- R144: CRC.UPD pending. -/
theorem run_crcUpd (s : State) (c b : Byte) (l : List Response) (is : List Instr) (rest : List HostEvent) (k : Nat) :
    core.run (k + 1) (s.registerAnswered c l (Spec.events (.crcUpd b :: is) ++ rest)) =
      core.run k (s.registerAnswered (crcStep s.params.crcPoly c b) (⟨zext40 c, .noError⟩ :: l) (Spec.events is ++ rest)) :=
  run_events_cons rfl rfl rfl k

/-- R144: a CRC.UPD for each byte folds the byte step over the bytes and answers the register last. -/
theorem run_crcUpds (s : State) (c : Byte) (l : List Response) (bs : List Byte) (rest : List HostEvent) :
    ∃ l', core.run bs.length (s.registerAnswered c l (Spec.events (bs.map .crcUpd) ++ rest)) =
      .next (s.registerAnswered (bs.foldl (crcStep s.params.crcPoly) c) l' rest) := by
  induction bs generalizing c l with
  | nil => exact ⟨l, rfl⟩
  | cons b bs ih =>
    obtain ⟨l', hl⟩ := ih (crcStep s.params.crcPoly c b) (⟨zext40 c, .noError⟩ :: l)
    exact ⟨l', (run_crcUpd s c b l _ rest bs.length).trans hl⟩

/-! ## Frames -/

/-- R148: WORD.CHK answers NONE exactly if the received byte is the computed checksum. -/
theorem exec_wordChk_passes_iff (s : State) (d0 d1 c : Byte) :
    (∃ y : ResultBus, exec (.wordChk d0 d1 c) s = .next (Spec.answered s y .noError))
      ↔ crcVerdict (crc8 s.params [d0, d1]) c = .noError := by
  have hx : exec (.wordChk d0 d1 c) s = .next (Spec.answered s (zext40 (crc8 s.params [d0, d1] ++ wordOfBytes d0 d1))
    (crcVerdict (crc8 s.params [d0, d1]) c)) := rfl
  constructor
  · rintro ⟨y, hy⟩
    injection hx.symm.trans hy with hstate
    injection congrArg State.responses hstate with hresp
    exact congrArg Response.err hresp
  · intro hv
    exact ⟨_, hv ▸ hx⟩

/-- R43, R149: group `j` of the bytes has its data word's checksum. -/
def GroupValid (p : Params) (bs : List Byte) (j : Nat) : Prop :=
  crcVerdict (crc8 p [bs.getD (3 * j) 0#8, bs.getD (3 * j + 1) 0#8]) (bs.getD (3 * j + 2) 0#8) = .noError

/-- R149: a frame is valid exactly if it has the bytes of its groups and each group is valid. -/
theorem frameValid_iff (p : Params) (g : Nat) (bs : List Byte) :
    frameValid p g bs = true ↔ bs.length = 3 * g ∧ ∀ j < g, GroupValid p bs j := by
  induction g generalizing bs with
  | zero => simp [frameValid]
  | succ g ih =>
    have short {l : List Byte} (hl : l.length < 3) : ¬ (l.length = 3 * (g + 1) ∧ ∀ j < g + 1, GroupValid p l j) := fun h => by omega
    match bs with
    | [] => exact iff_of_false nofun (short (by decide))
    | [_] => exact iff_of_false nofun (short (by decide : 1 < 3))
    | [_, _] => exact iff_of_false nofun (short (by decide : 2 < 3))
    | d0 :: d1 :: c :: rest =>
      have hlen : (d0 :: d1 :: c :: rest).length = 3 * (g + 1) ↔ rest.length = 3 * g := by
        simp only [List.length_cons]; omega
      have hgroups : (∀ j < g + 1, GroupValid p (d0 :: d1 :: c :: rest) j)
          ↔ crcVerdict (crc8 p [d0, d1]) c = .noError ∧ ∀ j < g, GroupValid p rest j := Nat.forall_lt_succ_left
      rw [hlen, hgroups, frameValid, Bool.and_eq_true, decide_eq_true_iff, ih rest]
      tauto

end Sys2Proof.Machine

open Sys2Proof Sys2Proof.Machine

/-- Settles O33: CRC.INIT starts the fold of `crc8`, and the CRC.UPDs fold over the bytes. -/
theorem streamingComputesTheChecksum : Obligations.StreamingComputesTheChecksum := by
  intro s bs rest hin
  obtain ⟨l, hl⟩ := run_crcUpds s s.params.crcInit s.responses bs rest
  exact ⟨_, (run_crcInit hin bs.length).trans hl, rfl, rfl, rfl, rfl, rfl, l, rfl⟩

/-- Settles O34: CRC.CHK compares the register that CRC.INIT and the two CRC.UPDs leave, which is the checksum WORD.CHK computes. -/
theorem groupChkAgreesWithWordChk : Obligations.GroupChkAgreesWithWordChk := by
  intro s d0 d1 c rest hin
  have hrun := (run_crcInit hin 3).trans ((run_crcUpd s _ d0 _ _ rest 2).trans (run_crcUpd s _ d1 _ _ rest 1))
  exact ⟨_, _, _, _, _, hrun.trans (run_events_cons (i := .crcChk c) (is := []) rfl rfl rfl 0), rfl, rfl, rfl, rfl, rfl, rfl⟩

/-- Settles O36: each operation is its rule. -/
theorem checksumOperationsComplete : Obligations.ChecksumOperationsComplete := fun _ _ _ _ _ _ =>
  ⟨rfl, rfl, rfl, rfl, rfl, rfl⟩

/-- Settles O35: WORD.CHK's verdict is the validity of its group, and a valid frame is read by the meaning of its data words. -/
theorem frameIsValidWhenEveryGroupIs : Obligations.FrameIsValidWhenEveryGroupIs := by
  refine ⟨fun s g bs => ?_, readResponse_invalid, fun s c d0 d1 e hg hv => ?_, fun s c d0 d1 e d2 d3 e' hg hd hv => ?_⟩
  · simp only [exec_wordChk_passes_iff]
    exact frameValid_iff s.params g bs
  · have hread := readResponse_valid s c [d0, d1, e] (hg ▸ hv)
    obtain ⟨b0, b1, n, g, d⟩ := c
    refine ⟨?status, ?raw, ?limit⟩
    case status =>
      rintro rfl
      exact ⟨_, hread, rfl, rfl⟩
    case raw =>
      rintro rfl
      exact ⟨hread, rfl⟩
    case limit =>
      rintro rfl
      refine ⟨decodeAlert s.params.alertLayout d0 d1, hread.trans ?_, ?_, rfl⟩
      · simp [DataMeaning.read, wordOfBytes]
      · simp [DataMeaning.request]
  · exact (readResponse_valid s c _ (hg ▸ hv)).trans (by rw [hd]; rfl)

end

section
/-! PROOFS. The command codec (R100 to R110): the operations taken from their raw requests, the words they answer and the frames they
build. -/

namespace Sys2Proof.Machine

variable {s t : State}

/-- R7: a 16-bit result is read back from the result bus. -/
@[simp] theorem zext40_word (w : Word16) : (zext40 w).extractLsb' 0 16 = w :=
  (BitVec.extractLsb'_setWidth_of_le (by decide)).trans BitVec.extractLsb'_eq_self

/-- R45, R104: the five bytes of a write frame, in wire order. -/
theorem writeFrame_bytes (q : Params) (cmd p : Word16) :
    (writeFrame q cmd p).extractLsb' 32 8 = highByte cmd ∧ (writeFrame q cmd p).extractLsb' 24 8 = lowByte cmd
      ∧ (writeFrame q cmd p).extractLsb' 16 8 = highByte p ∧ (writeFrame q cmd p).extractLsb' 8 8 = lowByte p
      ∧ (writeFrame q cmd p).extractLsb' 0 8 = crc8 q (wireBytes p) := by
  have word (start : Nat) (h : 8 ≤ start) : (writeFrame q cmd p).extractLsb' start 8 = (cmd ++ p).extractLsb' (start - 8) 8 := by
    rw [writeFrame_eq_append]
    exact BitVec.extractLsb'_append_eq_of_le h
  refine ⟨(word 32 (by decide)).trans ?_, (word 24 (by decide)).trans ?_, (word 16 (by decide)).trans ?_,
    (word 8 (by decide)).trans ?_, BitVec.extractLsb'_append_eq_right⟩
  · exact BitVec.extractLsb'_append_eq_of_le (by decide)
  · exact BitVec.extractLsb'_append_eq_of_le (by decide)
  · exact BitVec.extractLsb'_append_eq_of_add_le (by decide)
  · exact BitVec.extractLsb'_append_eq_of_add_le (by decide)

/-! ## The tables -/

/-- R100, R101, R105: what the document fixes of the tables. -/
theorem Rom.wf_iff (r : Rom) : r.wf = true ↔ r.cmdWord[0] = 0x30A2#16 ∧ r.cmdWord[1] = 0x3093#16 ∧ r.cmdWord[4] = 0xF32D#16
    ∧ (r.perLo.toList.flatMap Vector.toList).Nodup ∧ r.statusBit[0] = 0 ∧ r.statusBit[4] = 15 ∧ r.statusBit.toList.Nodup := by
  simp only [Rom.wf, Bool.and_eq_true, decide_eq_true_eq, and_assoc]

/-- The entries of a vector with no entry twice are told apart by their positions. -/
theorem getElem_inj_of_nodup {α : Type} {n : Nat} {v : Vector α n} (h : v.toList.Nodup) {i j : Nat} (hi : i < n) (hj : j < n)
    (e : v[i] = v[j]) : i = j := by
  have e' : v.toList[i]'(by simpa) = v.toList[j]'(by simpa) := by simpa using e
  exact (List.Nodup.getElem_inj_iff h).mp e'

/-- R101: where the fifteen suffixes are pairwise distinct, a suffix is of one pair only. -/
theorem perLo_inj {v : Vector (Vector Byte 3) 5} (h : (v.toList.flatMap Vector.toList).Nodup) {m m' r r' : Nat}
    (hm : m < 5) (hm' : m' < 5) (hr : r < 3) (hr' : r' < 3) (e : v[m][r] = v[m'][r']) : m = m' ∧ r = r' := by
  obtain ⟨rows, disjoint⟩ := List.nodup_flatMap.mp h
  have mem (m r : Nat) (hm : m < 5) (hr : r < 3) : v[m][r] ∈ v[m].toList := by simp
  have ne {m m' r r' : Nat} (hm' : m' < 5) (hr : r < 3) (hr' : r' < 3) (hlt : m < m') : v[m][r] ≠ v[m'][r'] := by
    intro e
    have d := List.pairwise_iff_getElem.mp disjoint m m' (by simp; omega) (by simpa) hlt
    simp only [Vector.getElem_toList] at d
    exact d (mem m r (by omega) hr) (e ▸ mem m' r' hm' hr')
  obtain hlt | rfl | hlt := Nat.lt_trichotomy m m'
  · exact absurd e (ne hm' hr hr' hlt)
  · refine ⟨rfl, getElem_inj_of_nodup (rows v[m] (by simp)) hr hr' e⟩
  · exact absurd e.symm (ne hm hr' hr hlt)

/-- R103: CMD.PER answers NONE for the pairs of the tables only, and then their word. -/
theorem exec_cmdPer_noError {m : BitVec 3} {r : BitVec 2} {y : ResultBus} (h : exec (.cmdPer m r) s = .next t)
    (hy : t.responses = { y := y, err := .noError } :: s.responses) :
    ∃ (hm : m.toNat < 5) (hr : r.toNat < 3), y = zext40 (s.rom.perHi[m.toNat] ++ s.rom.perLo[m.toNat][r.toNat]) := by
  by_cases hmr : m.toNat < 5 ∧ r.toNat < 3
  · cases (exec_cmdPer_of_lt hmr.1 hmr.2 s).symm.trans h
    cases hy
    exact ⟨hmr.1, hmr.2, rfl⟩
  · cases (exec_cmdPer_of_not_lt hmr s).symm.trans h
    cases hy

/-- R105, R106: with no position twice, the bit at one flag's position alone is that flag alone. -/
theorem statusFlags_twoPow {pos : Vector (Fin 16) 6} (h : pos.toList.Nodup) (k : Fin 6) :
    statusFlags pos (BitVec.twoPow 16 pos[k]) = BitVec.twoPow 6 k := by
  apply BitVec.eq_of_getLsbD_eq
  intro j hj
  have hpos : (pos[k.val] : Nat) = pos[j] ↔ (k : Nat) = j :=
    ⟨fun e => getElem_inj_of_nodup h k.isLt hj (Fin.ext e), fun e => by simp only [e]⟩
  refine (statusFlags_getLsbD pos _ ⟨j, hj⟩).trans ?_
  simp only [BitVec.getLsbD_twoPow, Fin.getElem_fin, Fin.is_lt, decide_true, Bool.true_and]
  exact decide_eq_decide.mpr hpos

/-- R106: a status word with the bit of flag `k` alone. -/
theorem exec_statDec_of_flag {w : Word16} {y : ResultBus} (k : Fin 6) (h : s.rom.statusBit.toList.Nodup)
    (hw : w = BitVec.twoPow 16 s.rom.statusBit[k]) (hy : y = zext40 (BitVec.twoPow 6 k)) :
    exec (.statDec w) s = .next (Spec.answered s y .noError) := by
  rw [hy, hw, ← statusFlags_twoPow h]
  rfl

/-- R148: WORD.CHK of a word and its own checksum gives the word back, with NONE. -/
theorem exec_wordChk_of_crc8 (s : State) (p : Word16) :
    ∃ q : ResultBus, exec (.wordChk (highByte p) (lowByte p) (crc8 s.params (wireBytes p))) s = .next (Spec.answered s q .noError)
      ∧ q.extractLsb' 0 16 = p := by
  refine ⟨zext40 (crc8 s.params (wireBytes p) ++ wordOfBytes (highByte p) (lowByte p)), ?_, ?_⟩
  · rw [← crcVerdict_self (crc8 s.params (wireBytes p))]
    rfl
  · exact (zext40_checksum_word _ _).1.trans (wordOfBytes_highByte_lowByte p)

/-! ## The reference tables' words (log 4) -/

theorem code_lt (c : CommandId) : c.code.toNat < 19 := by
  cases c <;> decide

theorem mps_code_lt (m : Mps) : m.code.toNat < 5 := by
  cases m <;> decide

theorem repeatability_code_lt (r : Repeatability) : r.code.toNat < 3 := by
  cases r <;> decide

/-- R100: the reference word of an id is the word of its row. -/
theorem decode_referenceCmdWord (c : CommandId) :
    decode (.wire16 (referenceCmdWord[c.code.toNat]'(code_lt c))) = .instr c.instr := by
  cases c <;> rfl

/-- R101: the reference word of a pair is the word of its row. -/
theorem decode_referencePer (m : Mps) (r : Repeatability) :
    decode (.wire16 (referencePerHi[m.code.toNat]'(mps_code_lt m)
      ++ (referencePerLo[m.code.toNat]'(mps_code_lt m))[r.code.toNat]'(repeatability_code_lt r))) = .instr (periodicInstr m r) := by
  cases m <;> cases r <;> rfl

/-! ## ALRT.WRITE -/

/-- The answer of an operation that completes with a 16-bit word. -/
def answerWord (w : Word16) : Response := ⟨zext40 w, .noError⟩

theorem answerWord_word (w : Word16) : (answerWord w).word = w := zext40_word w

/-- R109: ALRT.ENC answers the two bytes of the encoded limit. -/
theorem exec_alrtEnc_of_eq {lim : Word16} {b0 b1 : Byte} (h : encodeAlert s.params.alertLayout lim = (b0, b1)) :
    exec (.alrtEnc lim) s = .next { s with responses := answerWord (wordOfBytes b0 b1) :: s.responses } := by
  change execAlrtEnc lim s = _
  rw [execAlrtEnc, h]
  rfl

/-- R45, R104: the wire bytes the host takes from FRAME.PAY's answer. -/
theorem frameBytes_writeFrame (q : Params) (cmd p : Word16) (e : ErrCode) :
    Pseudo.wireBytesOf.frameBytes ⟨writeFrame q cmd p, e⟩ =
      [highByte cmd, lowByte cmd, highByte p, lowByte p, crc8 q (wireBytes p)] := by
  obtain ⟨h4, h3, h2, h1, h0⟩ := writeFrame_bytes q cmd p
  rw [Pseudo.wireBytesOf.frameBytes, h4, h3, h2, h1, h0]

end Sys2Proof.Machine

open Sys2Proof Sys2Proof.Machine

/-- Settles O38: the field checks of CMD.PER are the bounds of the tables it reads. -/
theorem cmdPerRequest : Obligations.CmdPerRequest := by
  intro s a
  have hwf : (Instr.cmdPer (a.extractLsb' 0 3) (a.extractLsb' 4 2)).wf = true
      ↔ (a.extractLsb' 0 3).toNat ≤ 4 ∧ (a.extractLsb' 4 2).toNat ≤ 2 := by
    simp only [Instr.wf, mpsCodeOk, repeatabilityCodeOk, Bool.and_eq_true, decide_eq_true_iff]
  have hstep := step_issued_operation (op := 0x1#4) (i := .cmdPer (a.extractLsb' 0 3) (a.extractLsb' 4 2)) rfl s
  by_cases h : a &&& 0xFFFFFFC8#32 = 0#32 ∧ (a.extractLsb' 0 3).toNat ≤ 4 ∧ (a.extractLsb' 4 2).toNat ≤ 2
  · rw [dif_pos h]
    obtain ⟨hres, hm, hr⟩ := h
    exact (hstep.trans (if_pos ⟨hres, hwf.mpr ⟨hm, hr⟩⟩)).trans
      (exec_cmdPer_of_lt (Nat.lt_succ_of_le hm) (Nat.lt_succ_of_le hr) s)
  · rw [dif_neg h]
    exact hstep.trans (if_neg fun hc => h ⟨hc.1, hwf.mp hc.2⟩)

/-- Settles O39: equal words have equal suffixes, and a suffix is of one pair only. -/
theorem periodicWordsAreDistinct : Obligations.PeriodicWordsAreDistinct := by
  intro s t t' m m' r r' y y' hwf h hy h' hy' e
  obtain ⟨-, -, -, suffixes, -⟩ := (Rom.wf_iff s.rom).mp hwf
  obtain ⟨hm, hr, rfl⟩ := exec_cmdPer_noError h hy
  obtain ⟨hm', hr', rfl⟩ := exec_cmdPer_noError h' hy'
  have words := congrArg (BitVec.extractLsb' 0 16) e
  rw [zext40_word, zext40_word] at words
  have suffix := congrArg (BitVec.extractLsb' 0 8) words
  rw [BitVec.extractLsb'_append_eq_right, BitVec.extractLsb'_append_eq_right] at suffix
  obtain ⟨em, er⟩ := perLo_inj suffixes hm hm' hr hr' suffix
  exact ⟨BitVec.eq_of_toNat_eq em, BitVec.eq_of_toNat_eq er⟩

/-- Settles O41: WORD.CHK computes the checksum the frame carries. -/
theorem framePayloadPassesWordChk : Obligations.FramePayloadPassesWordChk := by
  intro s t cmd p y h hy
  cases h
  cases hy
  obtain ⟨-, -, hhigh, hlow, hcrc⟩ := writeFrame_bytes s.params cmd p
  rw [hhigh, hlow, hcrc]
  exact exec_wordChk_of_crc8 (s.respond (writeFrame s.params cmd p) .noError) p

/-- Settles O43: the flags of the two fixed positions, the six positions being distinct. -/
theorem documentedStatusBitsStandAlone : Obligations.DocumentedStatusBitsStandAlone := by
  intro s hwf
  obtain ⟨-, -, -, -, h0, h4, distinct⟩ := (Rom.wf_iff s.rom).mp hwf
  have bit0 : 0x0001#16 = BitVec.twoPow 16 (s.rom.statusBit[(0 : Fin 6)] : Fin 16) := h0 ▸ by decide
  have bit15 : 0x8000#16 = BitVec.twoPow 16 (s.rom.statusBit[(4 : Fin 6)] : Fin 16) := h4 ▸ by decide
  exact ⟨exec_statDec_of_flag 0 distinct bit0 (by decide), exec_statDec_of_flag 4 distinct bit15 (by decide)⟩

/-- Settles O44: the bytes of ALRT.DEC are the low half of the operand, and a layout that keeps every bit is undone. -/
theorem alrtDecRequest : Obligations.AlrtDecRequest := by
  refine ⟨fun s a => ?_, fun lay limit h => decodeAlert_encodeAlert lay h limit, alertLayout_getElem⟩
  have hstep := step_issued_operation (op := 0xC#4) (i := .alrtDec (a.extractLsb' 8 8) (a.extractLsb' 0 8)) rfl s
  refine ⟨fun hres => hstep.trans (if_neg fun h => hres h.1), fun hres =>
    ⟨decodeAlert s.params.alertLayout (a.extractLsb' 8 8) (a.extractLsb' 0 8), hstep.trans (if_pos ⟨hres, rfl⟩), fun k => ?_,
      fun big => ?_⟩⟩
  · rw [decodeAlert_getLsbD, wordOfBytes, bytes_append, getLsbD_lowHalf]
  · rw [decodeAlert_bigEndian _ big, wordOfBytes, bytes_append]
    have wide : a.setWidth 40 = ((a.extractLsb' 0 16).setWidth 32).setWidth 40 := by
      rw [setWidth_extractLsb'_of_masked hres 16 (by decide)]
    rw [wide, BitVec.setWidth_setWidth (by decide)]

/-- Settles O45: the two bytes are the word that the layout makes of the low half of the operand. -/
theorem alrtEncRequest : Obligations.AlrtEncRequest := by
  refine ⟨fun s a => ?_, alertLayout_getElem⟩
  have hstep := step_issued_operation (op := 0xD#4) (i := .alrtEnc (a.extractLsb' 0 16)) rfl s
  refine ⟨fun hres => hstep.trans (if_neg fun h => hres h.1), fun hres =>
    ⟨_, _, hstep.trans (if_pos ⟨hres, rfl⟩), fun j => ?_, fun big => ?_⟩⟩
  · simp only [encodeAlert, highByte_append_lowByte, alertWord_getLsbD, getLsbD_lowHalf]
  · simp only [encodeAlert, alertWord_bigEndian _ big]
    exact ⟨BitVec.extractLsb'_extractLsb'_of_le (by decide), BitVec.extractLsb'_extractLsb'_of_le (by decide)⟩

/-- Settles O54: CVT.R2C has no field check. -/
theorem cvtR2cRequest : Obligations.CvtR2cRequest := by
  intro s a
  have hstep := step_issued_operation (op := 0xA#4) (i := .cvtR2c (a.extractLsb' 0 16)) rfl s
  exact ⟨fun hres => hstep.trans (if_neg fun h => hres h.1), fun hres => hstep.trans (if_pos ⟨hres, rfl⟩)⟩

/-- Settles O57: CVT.C2R has no reserved bit and no field check. -/
theorem cvtC2rRequest : Obligations.CvtC2rRequest := fun s a =>
  (step_issued_operation (op := 0xB#4) (i := .cvtC2r a) rfl s).trans (if_pos ⟨BitVec.and_zero, rfl⟩)

/-- Settles O46: each operation is its rule, and the big-endian layout is the identity on the word. -/
theorem codecOperationsComplete : Obligations.CodecOperationsComplete := by
  intro s id m r cmd p w lim b0 b1
  refine ⟨fun h => exec_cmdEnc_of_lt h s, fun hm hr => exec_cmdPer_of_lt hm hr s, rfl,
    ⟨zext40 (statusFlags s.rom.statusBit w), rfl, fun k => ?_, ?_⟩, rfl, rfl, fun big => ⟨decodeAlert_bigEndian _ big b0 b1, ?_⟩⟩
  · rw [zext40_getLsbD _ (by omega), statusFlags_getLsbD]
  · rw [zext40_toNat _ (by decide)]
    exact BitVec.isLt _
  · rw [encodeAlert, alertWord_bigEndian _ big]
    rfl

/-- Settles O47: the reference value of the id is the word of its row. -/
theorem commandWordsDecodeToTheirCommand : Obligations.CommandWordsDecodeToTheirCommand := by
  intro c s href
  have hc := code_lt c
  rw [Vector.getElem?_eq_getElem hc, Vector.getElem?_eq_getElem hc] at href
  refine ⟨_, exec_cmdEnc_of_lt hc s, ?_⟩
  rw [Option.some.inj href]
  exact (congrArg (fun w => decode (.wire16 w)) (zext40_word _)).trans (decode_referenceCmdWord c)

/-- Settles O48: the reference high byte and suffix of the pair are the word of its row. -/
theorem periodicWordsDecodeToTheirCommand : Obligations.PeriodicWordsDecodeToTheirCommand := by
  intro m r s hhi hlo
  refine ⟨_, exec_cmdPer_of_lt (mps_code_lt m) (repeatability_code_lt r) s, ?_⟩
  rw [hhi, hlo]
  exact (congrArg (fun w => decode (.wire16 w)) (zext40_word _)).trans (decode_referencePer m r)

/-- Settles O49, row by row. -/
theorem commandWordsReachTheWireOnly : Obligations.CommandWordsReachTheWireOnly := by
  refine ⟨fun c s => ?_, fun m r s => ?_⟩
  · cases c <;> exact ⟨_, _, rfl, rfl, rfl⟩
  · cases m <;> cases r <;> exact ⟨_, rfl, rfl⟩

/-- Settles O50: the limit's two bytes and the command's word come back in the responses, and FRAME.PAY puts them together. -/
theorem alertWriteMacroBuildsTheFrame : Obligations.AlertWriteMacroBuildsTheFrame := by
  intro s id lim h
  rcases he : encodeAlert s.params.alertLayout lim with ⟨b0, b1⟩
  refine ⟨answerWord (wordOfBytes b0 b1), answerWord s.rom.cmdWord[id.toNat],
    ⟨writeFrame s.params s.rom.cmdWord[id.toNat] (wordOfBytes b0 b1), .noError⟩, _, _, _,
    .alrtEnc lim, .cmdEnc id, .framePay s.rom.cmdWord[id.toNat] (wordOfBytes b0 b1), b0, b1,
    rfl, exec_alrtEnc_of_eq he, rfl, rfl, exec_cmdEnc_of_lt h _, rfl, ?third, rfl, rfl, rfl, rfl, ?frame, rfl, fun big => ?big⟩
  case third =>
    change some (Instr.framePay (answerWord _).word (answerWord _).word) = _
    rw [answerWord_word, answerWord_word]
  case frame =>
    exact (frameBytes_writeFrame _ _ _ _).trans (by rw [wireBytes, wordOfBytes, highByte_append, lowByte_append]; rfl)
  case big =>
    rw [encodeAlert, alertWord_bigEndian _ big] at he
    cases he
    exact ⟨rfl, rfl⟩

end

section
/-! PROOFS. Rounding to 24 significant bits (R7): the rounded magnitude is the nearest of those with 24 significant bits, even on a tie. -/

namespace Sys2Proof.Machine

variable {n n' d m r : Nat}

/-! ## The nearest whole number -/

/-- Multiples of `d` by different numbers are `d` apart. -/
theorem le_dist_mul {t q : Nat} (h : t ≠ q) (d : Nat) : d ≤ Nat.dist (t * d) (q * d) := by
  rw [Nat.dist_mul_right]
  exact Nat.le_mul_of_pos_left d (Nat.dist_pos_of_ne h)

/-- The rounded quotient is half of the divisor off at most. -/
theorem two_mul_dist_roundHalfEven (n : Nat) (hd : 0 < d) : 2 * Nat.dist n (roundHalfEven n d * d) ≤ d := by
  have above := two_mul_roundHalfEven_le n d
  have below := two_mul_le_roundHalfEven n d hd
  simp only [Nat.dist]
  omega

/-- No whole number is nearer to the quotient than the rounded one. -/
theorem dist_roundHalfEven_le (n : Nat) (hd : 0 < d) (t : Nat) : Nat.dist n (roundHalfEven n d * d) ≤ Nat.dist n (t * d) := by
  by_cases h : t = roundHalfEven n d
  · rw [h]
  · have half := two_mul_dist_roundHalfEven n hd
    have apart := le_dist_mul h d
    simp only [Nat.dist] at *
    omega

/-- On a tie the rounded quotient is even. -/
theorem roundHalfEven_even_of_tie (hd : 0 < d) {t : Nat} (h : t ≠ roundHalfEven n d)
    (tie : Nat.dist n (roundHalfEven n d * d) = Nat.dist n (t * d)) : roundHalfEven n d % 2 = 0 := by
  have apart := le_dist_mul h d
  have div := Nat.div_add_mod' n d
  have rem := Nat.mod_lt n hd
  have up : (n / d + 1) * d = n / d * d + d := Nat.succ_mul _ _
  simp only [Nat.dist] at *
  generalize hr : roundHalfEven n d = q at *
  unfold roundHalfEven at hr
  split_ifs at hr <;> subst hr <;> omega

/-- A whole number below the quotient is below the rounded one. -/
theorem le_roundHalfEven (hd : 0 < d) {t : Nat} (h : t * d ≤ n) : t ≤ roundHalfEven n d := by
  have := (Nat.le_div_iff_mul_le hd).mpr h
  obtain h | h := roundHalfEven_eq_or n d <;> omega

/-! ## The magnitudes with 24 significant bits -/

/-- `m` has at most 24 significant bits. -/
def Fits (m : Nat) : Prop := ∃ q e, q < 2 ^ 24 ∧ m = q * 2 ^ e

/-- A whole number up to 2^24, at any place. -/
theorem fits_mul_pow {q : Nat} (h : q ≤ 2 ^ 24) (e : Nat) : Fits (q * 2 ^ e) := by
  obtain h | rfl := h.lt_or_eq
  · exact ⟨q, e, h, rfl⟩
  · exact ⟨2 ^ 23, e + 1, by decide, by ring⟩

theorem fits_of_le (h : m ≤ 2 ^ 24) : Fits m := by
  simpa using fits_mul_pow h 0

/-- A magnitude of 24 significant bits is a multiple of the place of the 24th bit of any lower power of two. -/
theorem Fits.dvd (hm : Fits m) {e : Nat} (h : 2 ^ 23 * 2 ^ e ≤ m) : 2 ^ e ∣ m := by
  obtain ⟨q, e', hq, rfl⟩ := hm
  have lt : 2 ^ (23 + e) < 2 ^ (24 + e') := by
    rw [pow_add, pow_add]
    exact h.trans_lt (Nat.mul_lt_mul_of_pos_right hq (by positivity))
  have le : e ≤ e' := by
    have := (Nat.pow_lt_pow_iff_right (by decide : 1 < 2)).mp lt
    omega
  exact (Nat.pow_dvd_pow 2 le).mul_left q

/-- The exponent of a spacing, bounded. -/
theorem log2_sub_le_iff {x b : Nat} : Nat.log2 x - 23 ≤ b ↔ x < 2 ^ (24 + b) := by
  by_cases hx : x = 0
  · subst hx
    simp
  · rw [← Nat.log2_lt hx]
    omega

/-- The number rounded is below 24 bits of its spacing. -/
theorem lt_spacing (n : Nat) (hd : 0 < d) : n < 2 ^ 24 * (d * spacing n d) := by
  have h := (Nat.div_lt_iff_lt_mul hd).mp (log2_sub_le_iff.mp (le_refl (Nat.log2 (n / d) - 23)))
  rw [pow_add] at h
  exact h.trans_eq (by rw [spacing]; ring)

/-- A spacing is one unit, or the number rounded has all of its 24 bits. -/
theorem spacing_exponent_eq_zero_or_le (n : Nat) (hd : 0 < d) :
    Nat.log2 (n / d) - 23 = 0 ∨ 2 ^ 23 * (d * spacing n d) ≤ n := by
  by_cases h : Nat.log2 (n / d) ≤ 23
  · exact .inl (Nat.sub_eq_zero_of_le h)
  · have hne : n / d ≠ 0 := fun h0 => h (by simp [h0])
    have hle : 2 ^ (23 + (Nat.log2 (n / d) - 23)) ≤ n / d := (Nat.le_log2 hne).mp (by omega)
    refine .inr ?_
    calc 2 ^ 23 * (d * spacing n d) = 2 ^ (23 + (Nat.log2 (n / d) - 23)) * d := by rw [pow_add, spacing]; ring
      _ ≤ n := (Nat.le_div_iff_mul_le hd).mp hle

/-- The rounded magnitude as a multiple of the spacing. -/
theorem roundMagnitude_mul (n d : Nat) : roundMagnitude n d * d = roundHalfEven n (d * spacing n d) * (d * spacing n d) := by
  rw [roundMagnitude]
  ring

/-- The rounded magnitude has at most 24 bits of the spacing. -/
theorem roundHalfEven_le (n : Nat) (hd : 0 < d) : roundHalfEven n (d * spacing n d) ≤ 2 ^ 24 := by
  have := Nat.div_lt_of_lt_mul ((lt_spacing n hd).trans_eq (mul_comm _ _))
  obtain h | h := roundHalfEven_eq_or n (d * spacing n d) <;> omega

/-- R7: a rounded magnitude has 24 significant bits. -/
theorem fits_roundMagnitude (n : Nat) (hd : 0 < d) : Fits (roundMagnitude n d) :=
  fits_mul_pow (roundHalfEven_le n hd) _

/-- What a magnitude of 24 significant bits is to a number rounded: a multiple of the spacing, or below all that have 24 bits of it,
of which the number is none. -/
theorem Fits.eq_mul_or_lt (hr : Fits r) (n : Nat) (hd : 0 < d) :
    (∃ q, r * d = q * (d * spacing n d)) ∨ r * d < 2 ^ 23 * (d * spacing n d) ∧ 2 ^ 23 * (d * spacing n d) ≤ n := by
  have multiple (h : spacing n d ∣ r) : ∃ q, r * d = q * (d * spacing n d) := by
    obtain ⟨q, rfl⟩ := h
    exact ⟨q, by ring⟩
  obtain h0 | hle := spacing_exponent_eq_zero_or_le n hd
  · exact .inl (multiple (by rw [spacing, h0]; exact one_dvd r))
  · by_cases hlt : 2 ^ 23 * spacing n d ≤ r
    · exact .inl (multiple (hr.dvd hlt))
    · refine .inr ⟨?_, hle⟩
      calc r * d < 2 ^ 23 * spacing n d * d := Nat.mul_lt_mul_of_pos_right (by omega) hd
        _ = _ := by ring

/-- R7: no magnitude of 24 significant bits is nearer than the rounded one. -/
theorem dist_roundMagnitude_le (hr : Fits r) (n : Nat) (hd : 0 < d) :
    Nat.dist n (roundMagnitude n d * d) ≤ Nat.dist n (r * d) := by
  have hD : 0 < d * spacing n d := Nat.mul_pos hd (spacing_pos n d)
  rw [roundMagnitude_mul]
  obtain ⟨q, hq⟩ | ⟨hlt, hle⟩ := hr.eq_mul_or_lt n hd
  · rw [hq]
    exact dist_roundHalfEven_le n hD q
  · have := dist_roundHalfEven_le n hD (2 ^ 23)
    simp only [Nat.dist] at *
    omega

/-- R7: the significand of a magnitude, its 24 leading bits. -/
def significand (m : Nat) : Nat := m / 2 ^ (Nat.log2 m - 23)

/-- The significand is read off a multiple of a power of two, unless it has fewer than 24 bits of it. -/
theorem log2_mul_pow {q e : Nat} (hq : q < 2 ^ 24) (he : e = 0 ∨ 2 ^ 23 ≤ q) : Nat.log2 (q * 2 ^ e) - 23 = e := by
  obtain rfl | hle := he
  · exact Nat.le_zero.mp (log2_sub_le_iff.mpr (by simpa using hq))
  · refine le_antisymm (log2_sub_le_iff.mpr ?_) ?_
    · rw [pow_add]
      exact Nat.mul_lt_mul_of_pos_right hq (by positivity)
    · have h : 2 ^ (23 + e) ≤ q * 2 ^ e := by
        rw [pow_add]
        exact Nat.mul_le_mul_right _ hle
      have := (Nat.le_log2 (by positivity)).mpr h
      omega

/-- The significand at its place is read back. -/
theorem significand_mul_pow {q e : Nat} (hq : q < 2 ^ 24) (he : e = 0 ∨ 2 ^ 23 ≤ q) : significand (q * 2 ^ e) = q := by
  rw [significand, log2_mul_pow hq he, Nat.mul_div_cancel _ (by positivity)]

/-- R7: on a tie the rounded magnitude has an even significand. -/
theorem significand_even_of_tie (hr : Fits r) (hd : 0 < d) (hne : r ≠ roundMagnitude n d)
    (tie : Nat.dist n (roundMagnitude n d * d) = Nat.dist n (r * d)) : significand (roundMagnitude n d) % 2 = 0 := by
  have hD : 0 < d * spacing n d := Nat.mul_pos hd (spacing_pos n d)
  have hR : roundHalfEven n (d * spacing n d) % 2 = 0 := by
    have hne' : r * d ≠ roundMagnitude n d * d := fun h => hne (Nat.eq_of_mul_eq_mul_right hd h)
    rw [roundMagnitude_mul] at tie hne'
    obtain ⟨q, hq⟩ | ⟨hlt, hle⟩ := hr.eq_mul_or_lt n hd
    · rw [hq] at tie hne'
      exact roundHalfEven_even_of_tie hD (fun h => hne' (by rw [h])) tie
    · have := dist_roundHalfEven_le n hD (2 ^ 23)
      simp only [Nat.dist] at *
      omega
  obtain hlt | heq := (roundHalfEven_le n hd).lt_or_eq
  · have hfull := (spacing_exponent_eq_zero_or_le n hd).imp_right fun hle => le_roundHalfEven hD hle
    exact (congrArg (· % 2) (significand_mul_pow hlt hfull)).trans hR
  · have hm : roundMagnitude n d = 2 ^ 23 * 2 ^ (Nat.log2 (n / d) - 23 + 1) := by
      rw [roundMagnitude, heq, spacing]
      ring
    exact (congrArg (· % 2) (hm ▸ significand_mul_pow (by decide) (.inr (le_refl _)))).trans rfl

/-! ## Order and error -/

/-- Rounding does not cross a magnitude of 24 significant bits from above. -/
theorem le_roundMagnitude (hr : Fits r) (hd : 0 < d) (h : r * d ≤ n) : r ≤ roundMagnitude n d := by
  have := dist_roundMagnitude_le hr n hd
  by_contra hlt
  have : roundMagnitude n d * d < r * d := Nat.mul_lt_mul_of_pos_right (by omega) hd
  simp only [Nat.dist] at *
  omega

/-- Rounding does not cross a magnitude of 24 significant bits from below. -/
theorem roundMagnitude_le (hr : Fits r) (hd : 0 < d) (h : n ≤ r * d) : roundMagnitude n d ≤ r := by
  have := dist_roundMagnitude_le hr n hd
  by_contra hlt
  have : r * d < roundMagnitude n d * d := Nat.mul_lt_mul_of_pos_right (by omega) hd
  simp only [Nat.dist] at *
  omega

/-- A magnitude of 24 significant bits is not changed. -/
theorem roundMagnitude_eq_of_fits (hr : Fits r) (hd : 0 < d) : roundMagnitude (r * d) d = r :=
  le_antisymm (roundMagnitude_le hr hd (le_refl _)) (le_roundMagnitude hr hd (le_refl _))

/-- Rounding is monotone. -/
theorem roundMagnitude_mono (hd : 0 < d) (h : n ≤ n') : roundMagnitude n d ≤ roundMagnitude n' d := by
  have near := dist_roundMagnitude_le (fits_roundMagnitude n' hd) n hd
  have near' := dist_roundMagnitude_le (fits_roundMagnitude n hd) n' hd
  by_contra hlt
  have : roundMagnitude n' d * d < roundMagnitude n d * d := Nat.mul_lt_mul_of_pos_right (by omega) hd
  have heq : n = n' := by
    simp only [Nat.dist] at *
    omega
  exact hlt (heq ▸ le_refl _)

/-- The rounding error of a number below `2 ^ (24 + b)` units. -/
theorem two_mul_dist_roundMagnitude_le (hd : 0 < d) {b : Nat} (h : n < 2 ^ (24 + b) * d) :
    2 * Nat.dist n (roundMagnitude n d * d) ≤ 2 ^ b * d := by
  have hspacing : spacing n d ≤ 2 ^ b :=
    Nat.pow_le_pow_right two_pos (log2_sub_le_iff.mpr ((Nat.div_lt_iff_lt_mul hd).mpr h))
  rw [roundMagnitude_mul]
  calc _ ≤ d * spacing n d := two_mul_dist_roundHalfEven n (Nat.mul_pos hd (spacing_pos n d))
    _ ≤ 2 ^ b * d := (Nat.mul_le_mul_left d hspacing).trans_eq (mul_comm _ _)

/-- Below a power of two, the greatest magnitude of 24 significant bits has all of them set. -/
theorem Fits.le_of_lt (hm : Fits m) {e : Nat} (h : m < 2 ^ 24 * 2 ^ e) : m ≤ (2 ^ 24 - 1) * 2 ^ e := by
  by_contra hlt
  have hle : 2 ^ 23 * 2 ^ e ≤ m := (Nat.mul_le_mul_right _ (by decide)).trans (not_le.mp hlt).le
  obtain ⟨q, rfl⟩ := hm.dvd hle
  rw [mul_comm] at h hlt
  have hq : q < 2 ^ 24 := Nat.lt_of_mul_lt_mul_right h
  exact hlt (Nat.mul_le_mul_right _ (Nat.le_sub_one_of_lt hq))

/-- R7: a number is rounded below the power of two `2 ^ (24 + e)` exactly if it is below the midpoint under it. At the midpoint the
power of two is the even one. -/
theorem roundMagnitude_lt_iff (n : Nat) (hd : 0 < d) (e : Nat) :
    roundMagnitude n d < 2 ^ 24 * 2 ^ e ↔ 2 * n < (2 ^ 25 - 1) * (2 ^ e * d) := by
  have hpos : 0 < 2 ^ e * d := by positivity
  have fits_top : Fits (2 ^ 24 * 2 ^ e) := fits_mul_pow (le_refl _) e
  constructor
  · intro hlt
    by_contra hge
    have top := dist_roundMagnitude_le fits_top n hd
    have hle : roundMagnitude n d * d ≤ (2 ^ 24 - 1) * (2 ^ e * d) := by
      rw [← mul_assoc]
      exact Nat.mul_le_mul_right d ((fits_roundMagnitude n hd).le_of_lt hlt)
    rw [mul_assoc] at top
    have tie : Nat.dist n (roundMagnitude n d * d) = Nat.dist n (2 ^ 24 * (2 ^ e * d)) := by
      simp only [Nat.dist] at *
      omega
    have heq : roundMagnitude n d * d = (2 ^ 24 - 1) * 2 ^ e * d := by
      rw [mul_assoc]
      simp only [Nat.dist] at *
      omega
    rw [← mul_assoc] at tie
    have even := significand_even_of_tie fits_top hd hlt.ne' tie
    rw [Nat.eq_of_mul_eq_mul_right hd heq, significand_mul_pow (by decide) (.inr (by decide))] at even
    exact absurd even (by decide)
  · intro hlt
    by_contra hge
    have below := dist_roundMagnitude_le (fits_mul_pow (by decide : 2 ^ 24 - 1 ≤ 2 ^ 24) e) n hd
    have hle : 2 ^ 24 * (2 ^ e * d) ≤ roundMagnitude n d * d := by
      rw [← mul_assoc]
      exact Nat.mul_le_mul_right d (not_lt.mp hge)
    rw [mul_assoc] at below
    simp only [Nat.dist] at *
    omega

/-! ## Signed numbers -/

/-- R7: a signed number of units rounded to 24 significant bits, with no bound on the exponent. -/
def roundInt (num : Int) (den : Nat) : Int :=
  if num < 0 then -(roundMagnitude num.natAbs den : Int) else roundMagnitude num.natAbs den

theorem roundInt_natAbs (num : Int) (den : Nat) : (roundInt num den).natAbs = roundMagnitude num.natAbs den := by
  unfold roundInt
  split_ifs <;> simp

/-- The least magnitude that rounding makes an infinity (R7), 2^128, in units. -/
theorem overflow_eq : 2 ^ 128 * unitsPerOne = 2 ^ 24 * 2 ^ 253 := by
  rw [unitsPerOne, ← pow_add, ← pow_add]

/-- R7: `fl32` by whether the rounded number overflows. -/
theorem fl32_of_lt {num : Int} {den : Nat} (h : roundMagnitude num.natAbs den < 2 ^ 24 * 2 ^ 253) :
    fl32 num den = .finite (roundInt num den) := by
  rw [fl32, overflow_eq, if_neg (not_le.mpr h), roundInt, apply_ite F32.finite]

/-- R7: a rounded magnitude of 2^128 or more is an infinity, of the number's sign. -/
theorem fl32_of_le {num : Int} {den : Nat} (h : 2 ^ 24 * 2 ^ 253 ≤ roundMagnitude num.natAbs den) :
    fl32 num den = .inf (decide (num < 0)) := by
  rw [fl32, overflow_eq, if_pos h]

/-- A finite result is the rounded number. -/
theorem fl32_eq_finite {num k : Int} {den : Nat} (h : fl32 num den = .finite k) :
    k = roundInt num den ∧ k.natAbs < 2 ^ 24 * 2 ^ 253 := by
  by_cases hlt : roundMagnitude num.natAbs den < 2 ^ 24 * 2 ^ 253
  · cases (fl32_of_lt hlt).symm.trans h
    exact ⟨rfl, roundInt_natAbs num den ▸ hlt⟩
  · cases (fl32_of_le (not_lt.mp hlt)).symm.trans h

variable {num num' k : Int} {den : Nat}

/-- Rounding is monotone over the signs too. -/
theorem roundInt_mono (hd : 0 < den) (h : num ≤ num') : roundInt num den ≤ roundInt num' den := by
  unfold roundInt
  split_ifs with hneg hneg' hneg'
  · have := roundMagnitude_mono hd (by omega : num'.natAbs ≤ num.natAbs)
    omega
  · omega
  · omega
  · have := roundMagnitude_mono hd (by omega : num.natAbs ≤ num'.natAbs)
    omega

/-- A number of 24 significant bits is not changed. -/
theorem roundInt_eq_of_fits (hd : 0 < den) (hk : Fits k.natAbs) : roundInt (k * den) den = k := by
  have hden : (0 : Int) < den := by exact_mod_cast hd
  rw [roundInt, Int.natAbs_mul, Int.natAbs_natCast, roundMagnitude_eq_of_fits hk hd]
  split_ifs with hneg
  · have := neg_of_mul_neg_left hneg hden.le
    omega
  · have := nonneg_of_mul_nonneg_left (not_lt.mp hneg) hden
    omega

/-- Rounding does not cross a number of 24 significant bits. -/
theorem le_roundInt (hd : 0 < den) (hk : Fits k.natAbs) (h : k * den ≤ num) : k ≤ roundInt num den :=
  (roundInt_eq_of_fits hd hk).symm.trans_le (roundInt_mono hd h)

theorem roundInt_le (hd : 0 < den) (hk : Fits k.natAbs) (h : num ≤ k * den) : roundInt num den ≤ k :=
  (roundInt_mono hd h).trans_eq (roundInt_eq_of_fits hd hk)

/-- The distance of two signed numbers is at least that of their magnitudes. -/
theorem dist_natAbs_le (a b : Int) : Nat.dist a.natAbs b.natAbs ≤ (a - b).natAbs := by
  unfold Nat.dist
  omega

/-- The distance of a number from its rounded one is that of their magnitudes: rounding keeps the sign. -/
theorem natAbs_sub_roundInt (num : Int) (den : Nat) :
    (num - roundInt num den * den).natAbs = Nat.dist num.natAbs (roundMagnitude num.natAbs den * den) := by
  have hneg : -(roundMagnitude num.natAbs den : Int) * den = -((roundMagnitude num.natAbs den * den : Nat) : Int) := by
    push_cast
    ring
  unfold roundInt Nat.dist
  split_ifs
  · rw [hneg]
    omega
  · rw [← Int.natCast_mul]
    omega

/-- The rounding error of a signed number below `2 ^ (24 + b)` units. -/
theorem two_mul_natAbs_sub_roundInt_le (hd : 0 < den) {b : Nat} (h : num.natAbs < 2 ^ (24 + b) * den) :
    2 * (num - roundInt num den * den).natAbs ≤ 2 ^ b * den := by
  rw [natAbs_sub_roundInt]
  exact two_mul_dist_roundMagnitude_le hd h

/-- The magnitudes are nearer to each other than the signed numbers. -/
theorem dist_natAbs_mul_le (num k : Int) (den : Nat) : Nat.dist num.natAbs (k.natAbs * den) ≤ (num - k * den).natAbs := by
  have := dist_natAbs_le num (k * den)
  rwa [Int.natAbs_mul, Int.natAbs_natCast] at this

/-- R7: no number of 24 significant bits is nearer than the rounded one. -/
theorem natAbs_sub_roundInt_le (hd : 0 < den) (hk : Fits k.natAbs) :
    (num - roundInt num den * den).natAbs ≤ (num - k * den).natAbs := by
  rw [natAbs_sub_roundInt]
  exact (dist_roundMagnitude_le hk _ hd).trans (dist_natAbs_mul_le num k den)

/-- R7: on a tie the rounded number has an even significand. Two numbers of one magnitude are no tie, unless they are equal. -/
theorem significand_even_of_natAbs_tie (hd : 0 < den) (hk : Fits k.natAbs) (hne : k ≠ roundInt num den)
    (tie : (num - roundInt num den * den).natAbs = (num - k * den).natAbs) :
    significand (roundInt num den).natAbs % 2 = 0 := by
  have tie' : Nat.dist num.natAbs (roundMagnitude num.natAbs den * den) = Nat.dist num.natAbs (k.natAbs * den) := by
    refine le_antisymm (dist_roundMagnitude_le hk _ hd) ?_
    rw [← natAbs_sub_roundInt, tie]
    exact dist_natAbs_mul_le num k den
  have hmag : k.natAbs ≠ roundMagnitude num.natAbs den := by
    intro hmag
    rw [← roundInt_natAbs] at hmag
    have hk : k = -roundInt num den := (Int.natAbs_eq_natAbs_iff.mp hmag).resolve_left hne
    rw [hk, neg_mul, sub_neg_eq_add] at tie
    have hprod : roundInt num den * den ≠ 0 := mul_ne_zero (by rintro h; simp [h] at hk; omega) (by omega)
    have hnum : num = 0 := by omega
    subst hnum
    have hzero : roundInt 0 den = 0 := by simpa using roundInt_eq_of_fits (k := 0) hd (fits_of_le (Nat.zero_le _))
    exact hprod (by rw [hzero, zero_mul])
  rw [roundInt_natAbs]
  exact significand_even_of_tie hk hd hmag tie'

/-- The rounded number has 24 significant bits. -/
theorem fits_roundInt (num : Int) (hd : 0 < den) : Fits (roundInt num den).natAbs := by
  rw [roundInt_natAbs]
  exact fits_roundMagnitude _ hd

end Sys2Proof.Machine
end

section
/-! PROOFS. The binary32 patterns (R7): the magnitude a pattern encodes, and the pattern of a magnitude. -/

namespace Sys2Proof.Machine

/-- The magnitude, in units, of the pattern `p` without its sign bit: a subnormal, or 24 bits at the exponent field's place. -/
def patternMagnitude (p : Nat) : Nat :=
  if p < 2 ^ 23 then p else (2 ^ 23 + p % 2 ^ 23) * 2 ^ (p / 2 ^ 23 - 1)

/-- The pattern of +infinity; the finite magnitudes' patterns are below it, and NaNs above. -/
def infPattern : Nat := 0x7F800000

/-- A pattern is its significand, the leading bit included, plus the exponent field less one. -/
theorem patternMagnitude_eq (p : Nat) :
    ∃ q e, p = q + e * 2 ^ 23 ∧ q < 2 ^ 24 ∧ (e = 0 ∨ 2 ^ 23 ≤ q) ∧ patternMagnitude p = q * 2 ^ e := by
  unfold patternMagnitude
  split_ifs with h
  · exact ⟨p, 0, by simp, by omega, .inl rfl, by simp⟩
  · exact ⟨2 ^ 23 + p % 2 ^ 23, p / 2 ^ 23 - 1, by omega, by omega, .inr (by omega), rfl⟩

/-- R7: the pattern of a magnitude with 24 significant bits. -/
theorem magnitudeBits_mul_pow {q e : Nat} (hq : q < 2 ^ 24) (he : e = 0 ∨ 2 ^ 23 ≤ q) :
    magnitudeBits (q * 2 ^ e) = q + e * 2 ^ 23 := by
  have hsig := significand_mul_pow hq he
  rw [significand] at hsig
  rw [magnitudeBits, hsig, log2_mul_pow hq he]

/-- R7: the pattern of a pattern's magnitude is that pattern. -/
theorem magnitudeBits_patternMagnitude (p : Nat) : magnitudeBits (patternMagnitude p) = p := by
  obtain ⟨q, e, hp, hq, he, hm⟩ := patternMagnitude_eq p
  rw [hm, magnitudeBits_mul_pow hq he, hp]

theorem patternMagnitude_injective : Function.Injective patternMagnitude :=
  Function.LeftInverse.injective magnitudeBits_patternMagnitude

/-- A magnitude of 24 significant bits has all of them above its place, unless it is below 24 bits. -/
theorem Fits.exists_normal {m : Nat} (hm : Fits m) : ∃ q e, q < 2 ^ 24 ∧ (e = 0 ∨ 2 ^ 23 ≤ q) ∧ m = q * 2 ^ e := by
  obtain ⟨q, e, hq, rfl⟩ := hm
  induction e generalizing q with
  | zero => exact ⟨q, 0, hq, .inl rfl, rfl⟩
  | succ e ih =>
    by_cases h : 2 ^ 23 ≤ q
    · exact ⟨q, e + 1, hq, .inr h, rfl⟩
    · obtain ⟨q', e', hq', he', hm⟩ := ih (2 * q) (by omega)
      exact ⟨q', e', hq', he', by rw [← hm]; ring⟩

/-- The magnitude of a significand at its place. -/
theorem patternMagnitude_normal {q e : Nat} (hq : q < 2 ^ 24) (he : e = 0 ∨ 2 ^ 23 ≤ q) :
    patternMagnitude (q + e * 2 ^ 23) = q * 2 ^ e := by
  unfold patternMagnitude
  split_ifs with h
  · obtain rfl : e = 0 := by omega
    simp
  · have hmod : 2 ^ 23 + (q + e * 2 ^ 23) % 2 ^ 23 = q := by omega
    have hdiv : (q + e * 2 ^ 23) / 2 ^ 23 - 1 = e := by omega
    rw [hmod, hdiv]

/-- R7: the magnitude of the pattern of a magnitude with 24 significant bits. -/
theorem patternMagnitude_magnitudeBits {m : Nat} (hm : Fits m) : patternMagnitude (magnitudeBits m) = m := by
  obtain ⟨q, e, hq, he, rfl⟩ := hm.exists_normal
  rw [magnitudeBits_mul_pow hq he, patternMagnitude_normal hq he]

theorem fits_patternMagnitude (p : Nat) : Fits (patternMagnitude p) := by
  obtain ⟨q, e, -, hq, -, hm⟩ := patternMagnitude_eq p
  exact ⟨q, e, hq, hm⟩

/-- R7: the finite patterns are those of the magnitudes below 2^128. -/
theorem patternMagnitude_lt {p : Nat} (h : p < infPattern) : patternMagnitude p < 2 ^ 24 * 2 ^ 253 := by
  unfold infPattern at h
  obtain ⟨q, e, hp, hq, he, hm⟩ := patternMagnitude_eq p
  rw [hm]
  exact Nat.mul_lt_mul_of_lt_of_le hq (Nat.pow_le_pow_right two_pos (by omega)) (by positivity)

/-- R7: magnitudes below 2^128 have finite patterns. -/
theorem magnitudeBits_lt {m : Nat} (hm : Fits m) (h : m < 2 ^ 24 * 2 ^ 253) : magnitudeBits m < infPattern := by
  unfold infPattern
  obtain ⟨q, e, hq, he, rfl⟩ := hm.exists_normal
  rw [magnitudeBits_mul_pow hq he]
  by_cases hle : e ≤ 253
  · omega
  · have : 2 ^ 23 * 2 ^ 254 ≤ q * 2 ^ e := Nat.mul_le_mul (by omega) (Nat.pow_le_pow_right two_pos (by omega))
    have e254 : (2 : Nat) ^ 254 = 2 * 2 ^ 253 := by rw [← pow_succ']
    omega

/-- Greater patterns encode greater magnitudes. -/
theorem patternMagnitude_strictMono : StrictMono patternMagnitude := by
  refine strictMono_nat_of_lt_succ fun p => ?_
  obtain ⟨q, e, hp, hq, he, hm⟩ := patternMagnitude_eq p
  rw [hm]
  by_cases hlast : q + 1 < 2 ^ 24
  · have hnext : p + 1 = (q + 1) + e * 2 ^ 23 := by omega
    rw [hnext, patternMagnitude_normal hlast (he.imp_right fun h => by omega)]
    exact Nat.mul_lt_mul_of_pos_right (Nat.lt_succ_self q) (by positivity)
  · have hnext : p + 1 = 2 ^ 23 + (e + 1) * 2 ^ 23 := by omega
    rw [hnext, patternMagnitude_normal (by decide) (.inr (le_refl _))]
    have hpow : 2 ^ 23 * 2 ^ (e + 1) = 2 ^ 24 * 2 ^ e := by ring
    rw [hpow]
    exact Nat.mul_lt_mul_of_pos_right hq (by positivity)

/-! ## `f32` and `bits32` by the sign bit and the pattern below it -/

/-- The pattern without its sign bit. -/
def absPattern (b : BitVec 32) : Nat := b.toNat % 2 ^ 31

/-- The pattern with this sign bit and the pattern `p` below it. -/
def signedPattern (negative : Bool) (p : Nat) : BitVec 32 := BitVec.ofNat 32 ((if negative then 2 ^ 31 else 0) + p)

theorem getLsbD_31 (b : BitVec 32) : b.getLsbD 31 = decide (2 ^ 31 ≤ b.toNat) :=
  BitVec.msb_eq_decide b

/-- A pattern is put together from its sign bit and the rest. -/
theorem signedPattern_absPattern (b : BitVec 32) : signedPattern (b.getLsbD 31) (absPattern b) = b := by
  have hb := b.isLt
  apply BitVec.eq_of_toNat_eq
  rw [signedPattern, BitVec.toNat_ofNat, getLsbD_31, absPattern]
  simp only [decide_eq_true_eq]
  split_ifs <;> omega

theorem absPattern_signedPattern (negative : Bool) {p : Nat} (h : p < 2 ^ 31) : absPattern (signedPattern negative p) = p := by
  rw [absPattern, signedPattern, BitVec.toNat_ofNat]
  split_ifs <;> omega

theorem getLsbD_signedPattern (negative : Bool) {p : Nat} (h : p < 2 ^ 31) : (signedPattern negative p).getLsbD 31 = negative := by
  rw [getLsbD_31, signedPattern, BitVec.toNat_ofNat]
  cases negative
  · simp
    omega
  · simp
    omega

/-- R7: the pattern of a finite number is its sign and the pattern of its magnitude. -/
theorem bits32_finite (k : Int) : bits32 (.finite k) = signedPattern (decide (k < 0)) (magnitudeBits k.natAbs) := by
  rw [bits32, signedPattern]
  by_cases hk : k < 0 <;> simp [hk]

theorem bits32_inf (negative : Bool) : bits32 (.inf negative) = signedPattern negative infPattern := by
  cases negative <;> rfl

/-- R7: the exponent field. -/
theorem exponent_eq (b : BitVec 32) : (b.extractLsb' 23 8).toNat = absPattern b / 2 ^ 23 := by
  rw [BitVec.extractLsb'_toNat, Nat.shiftRight_eq_div_pow, absPattern]
  omega

/-- R7: the fraction field. -/
theorem fraction_eq (b : BitVec 32) : (b.extractLsb' 0 23).toNat = absPattern b % 2 ^ 23 := by
  rw [BitVec.extractLsb'_toNat, Nat.shiftRight_zero, absPattern]
  omega

/-- A magnitude with a sign. -/
def signed (negative : Bool) (m : Nat) : Int := if negative then -m else m

theorem signed_true (m : Nat) : signed true m = -m := rfl

theorem signed_false (m : Nat) : signed false m = m := rfl

theorem natAbs_signed (negative : Bool) (m : Nat) : (signed negative m).natAbs = m := by
  cases negative
  · rw [signed_false, Int.natAbs_natCast]
  · rw [signed_true, Int.natAbs_neg, Int.natAbs_natCast]

/-- The sign of a magnitude that is not a negative zero is kept. -/
theorem signed_lt_zero_iff {negative : Bool} {m : Nat} (h : negative = true → m ≠ 0) :
    decide (signed negative m < 0) = negative := by
  cases negative
  · exact decide_eq_false (by rw [signed_false]; omega)
  · have := h rfl
    exact decide_eq_true (by rw [signed_true]; omega)

theorem patternMagnitude_ne_zero {p : Nat} (h : p ≠ 0) : patternMagnitude p ≠ 0 :=
  patternMagnitude_injective.ne h

/-- Log 8: the one pattern of a negative zero. -/
theorem negativeZero_of_absPattern {b : BitVec 32} (hs : b.getLsbD 31 = true) (hp : absPattern b = 0) : b = 0x80000000#32 := by
  rw [← signedPattern_absPattern b, hs, hp]
  rfl

/-- R7: the signed magnitude of a finite pattern. -/
theorem f32_of_lt {b : BitVec 32} (h : absPattern b < infPattern) :
    f32 b = some (.finite (signed (b.getLsbD 31) (patternMagnitude (absPattern b)))) := by
  unfold infPattern at h
  have hexp : absPattern b / 2 ^ 23 = 0 ↔ absPattern b < 2 ^ 23 := by omega
  have hmod : absPattern b < 2 ^ 23 → absPattern b % 2 ^ 23 = absPattern b := Nat.mod_eq_of_lt
  have hmag : (if absPattern b / 2 ^ 23 = 0 then absPattern b % 2 ^ 23
      else (2 ^ 23 + absPattern b % 2 ^ 23) * 2 ^ (absPattern b / 2 ^ 23 - 1)) = patternMagnitude (absPattern b) := by
    rw [patternMagnitude]
    simp only [hexp]
    split_ifs with hsub
    · exact hmod hsub
    · rfl
  simp only [f32, exponent_eq, fraction_eq, hmag]
  rw [if_neg (by omega)]
  cases b.getLsbD 31 <;> rfl

/-- R7: the patterns above the finite ones are the infinities and the NaNs. -/
theorem f32_of_le {b : BitVec 32} (h : infPattern ≤ absPattern b) :
    f32 b = if absPattern b = infPattern then some (.inf (b.getLsbD 31)) else none := by
  have hlt : absPattern b < 2 ^ 31 := Nat.mod_lt _ (by decide)
  unfold infPattern at *
  have hexp : absPattern b / 2 ^ 23 = 255 := by omega
  have hfrac : absPattern b % 2 ^ 23 = 0 ↔ absPattern b = 0x7F800000 := by omega
  simp only [f32, exponent_eq, fraction_eq, hexp, hfrac, if_true]

/-- R7: a finite pattern encodes a number of 24 significant bits below 2^128. -/
theorem fits_of_f32 {b : BitVec 32} {k : Int} (h : f32 b = some (.finite k)) :
    k.natAbs = patternMagnitude (absPattern b) ∧ absPattern b < infPattern := by
  by_cases hlt : absPattern b < infPattern
  · cases (f32_of_lt hlt).symm.trans h
    exact ⟨natAbs_signed _ _, hlt⟩
  · rw [f32_of_le (not_lt.mp hlt)] at h
    split_ifs at h
    cases h

/-- R7: the pattern of a number of 24 significant bits below 2^128 encodes it. -/
theorem f32_bits32 {k : Int} (hk : Fits k.natAbs) (hlt : k.natAbs < 2 ^ 24 * 2 ^ 253) :
    f32 (bits32 (.finite k)) = some (.finite k) := by
  have hp := magnitudeBits_lt hk hlt
  have hp31 : magnitudeBits k.natAbs < 2 ^ 31 := hp.trans (by decide)
  rw [bits32_finite, f32_of_lt (by rwa [absPattern_signedPattern _ hp31]), absPattern_signedPattern _ hp31,
    getLsbD_signedPattern _ hp31, patternMagnitude_magnitudeBits hk]
  by_cases hneg : k < 0
  · rw [decide_eq_true hneg, signed_true, Int.ofNat_natAbs_of_nonpos hneg.le, neg_neg]
  · rw [decide_eq_false hneg, signed_false, Int.natAbs_of_nonneg (not_lt.mp hneg)]

/-- R7: the last bit of a pattern is that of its significand. -/
theorem bits32_getLsbD_zero (k : Int) (h : significand k.natAbs % 2 = 0) : (bits32 (.finite k)).getLsbD 0 = false := by
  have hbits : magnitudeBits k.natAbs = significand k.natAbs + (Nat.log2 k.natAbs - 23) * 2 ^ 23 := rfl
  have heven : ((if decide (k < 0) then 2 ^ 31 else 0) + magnitudeBits k.natAbs) % 2 = 0 := by
    rw [hbits]
    split_ifs <;> omega
  rw [bits32_finite, signedPattern, BitVec.getLsbD_ofNat, Nat.testBit_zero, heven]
  rfl

end Sys2Proof.Machine

open Sys2Proof Sys2Proof.Machine

/-- Settles O52: a magnitude's pattern gives the magnitude back, and the sign bit is the number's sign, but for the negative zero. -/
theorem patternOfAValueIsItsOwn : Obligations.PatternOfAValueIsItsOwn := by
  intro b x h hb
  by_cases hlt : absPattern b < infPattern
  · cases (f32_of_lt hlt).symm.trans h
    have hzero : b.getLsbD 31 = true → patternMagnitude (absPattern b) ≠ 0 := fun hs =>
      patternMagnitude_ne_zero fun hp => hb (negativeZero_of_absPattern hs hp)
    rw [bits32_finite, natAbs_signed, magnitudeBits_patternMagnitude, signed_lt_zero_iff hzero, signedPattern_absPattern]
  · rw [f32_of_le (not_lt.mp hlt)] at h
    split_ifs at h with hinf
    cases h
    rw [bits32_inf, ← hinf, signedPattern_absPattern]

/-- Settles O51: no number of 24 significant bits is nearer than the rounded one, whose significand is even on a tie; and the magnitudes
rounded to 2^128 or more are those from the midpoint below it on. -/
theorem roundingIsToNearestTiesToEven : Obligations.RoundingIsToNearestTiesToEven := by
  intro num den hd
  refine ⟨fun k hfin => ?_, fun neg => ?_⟩
  · obtain ⟨rfl, hlt⟩ := fl32_eq_finite hfin
    have fits {b : BitVec 32} {k' : Int} (h : f32 b = some (.finite k')) : Fits k'.natAbs :=
      (fits_of_f32 h).1 ▸ fits_patternMagnitude _
    exact ⟨⟨_, f32_bits32 (fits_roundInt num hd) hlt⟩, fun b k' h => natAbs_sub_roundInt_le hd (fits h), fun b k' h hne tie =>
      bits32_getLsbD_zero _ (significand_even_of_natAbs_tie hd (fits h) hne tie)⟩
  · have hmid := roundMagnitude_lt_iff num.natAbs hd 253
    have hthreshold : (2 ^ 25 - 1) * (2 ^ 253 * den) = 2 * ((2 ^ 24 * 2 ^ 253 - 2 ^ 252) * den) := by
      have h : 2 ^ 24 * 2 ^ 253 - 2 ^ 252 = (2 ^ 25 - 1) * 2 ^ 252 := by decide
      rw [h]
      ring
    rw [hthreshold] at hmid
    by_cases hlt : roundMagnitude num.natAbs den < 2 ^ 24 * 2 ^ 253
    · have := hmid.mp hlt
      rw [fl32_of_lt hlt]
      exact ⟨nofun, fun h => by omega⟩
    · have hge := mt hmid.mpr hlt
      rw [fl32_of_le (not_lt.mp hlt), F32.inf.injEq, eq_comm]
      exact ⟨fun h => ⟨by omega, h⟩, fun h => h.2⟩

end

section
/-! PROOFS. The converter (R170 to R173): no operation of CVT.R2C overflows, each rounding error is bounded, and CVT.C2R is monotone on
the finite patterns. -/

namespace Sys2Proof.Machine

/-! ## Finite results -/

/-- R7: a number within a magnitude of 24 significant bits below 2^128 has a finite result, within that magnitude. -/
theorem fl32_of_bound {num : Int} {den r : Nat} (hd : 0 < den) (hr : Fits r) (hlt : r < 2 ^ 24 * 2 ^ 253) (h : num.natAbs ≤ r * den) :
    fl32 num den = .finite (roundInt num den) ∧ (roundInt num den).natAbs ≤ r := by
  have hle := roundMagnitude_le hr hd h
  exact ⟨fl32_of_lt (hle.trans_lt hlt), by rwa [roundInt_natAbs]⟩

/-- R7: the operations on a finite value round once. -/
theorem divNat_finite (k : Int) (n : Nat) : (F32.finite k).divNat n = fl32 k n := rfl

theorem mulNat_finite (k : Int) (n : Nat) : (F32.finite k).mulNat n = fl32 (k * n) 1 := rfl

theorem addInt_finite (k n : Int) : (F32.finite k).addInt n = fl32 (k + n * unitsPerOne) 1 := rfl

theorem roundInt_one_of_fits {k : Int} (hk : Fits k.natAbs) : roundInt k 1 = k := by
  simpa using roundInt_eq_of_fits Nat.one_pos hk

/-- What is below 2^200 units does not overflow. -/
theorem lt_overflow {m : Nat} (h : m < 2 ^ 200) : m < 2 ^ 24 * 2 ^ 253 :=
  h.trans (by decide)

/-- The unit of the rounding errors of the converter: half of the spacing below 256, 2^-17. -/
def halfStep : Int := 2 ^ 132

/-- The rounding error of a number below `2 ^ (24 + b)` units, from both sides. -/
theorem roundInt_error {num : Int} {den : Nat} (hd : 0 < den) (b : Nat) (h : num.natAbs < 2 ^ (24 + b) * den) :
    2 * (num - roundInt num den * den) ≤ 2 ^ b * den ∧ 2 * (roundInt num den * den - num) ≤ 2 ^ b * den := by
  have herr : ((2 * (num - roundInt num den * den).natAbs : Nat) : Int) ≤ ((2 ^ b * den : Nat) : Int) :=
    Int.ofNat_le.mpr (two_mul_natAbs_sub_roundInt_le hd h)
  push_cast at herr
  have above := le_abs_self (num - roundInt num den * den)
  have below := neg_abs_le (num - roundInt num den * den)
  omega

/-! ## CVT.R2C -/

/-- The number of units of `t2` (R171). -/
def quotientUnits (v : Word16) : Int := roundInt (v.toNat * 175 * 2 ^ 149) 65535

/-- The number of units of `t3` (R171). -/
def celsiusUnits (v : Word16) : Int := roundInt (quotientUnits v - 45 * 2 ^ 149) 1


variable (v : Word16)

theorem rawCode_le : (v.toNat : Int) ≤ 65535 := by
  have := v.isLt
  omega

/-- R171: the product has 24 significant bits. -/
theorem fits_product : Fits (v.toNat * 175 * 2 ^ 149) :=
  fits_mul_pow (by have := v.isLt; omega) 149

/-- R171: `t2` is within [0, 175]. -/
theorem quotientUnits_mem : 0 ≤ quotientUnits v ∧ quotientUnits v ≤ 175 * 2 ^ 149 := by
  have hv := rawCode_le v
  exact ⟨le_roundInt (by decide) (fits_of_le (by decide)) (by omega),
    roundInt_le (by decide) (fits_mul_pow (by decide : 175 ≤ 2 ^ 24) 149) (by push_cast; omega)⟩

/-- R171: the error of the division, a half step at most. -/
theorem quotientUnits_error : v.toNat * 175 * 2 ^ 149 - quotientUnits v * 65535 ≤ 65535 * halfStep
    ∧ quotientUnits v * 65535 - v.toNat * 175 * 2 ^ 149 ≤ 65535 * halfStep := by
  have hv := rawCode_le v
  obtain ⟨h1, h2⟩ := roundInt_error (num := v.toNat * 175 * 2 ^ 149) (den := 65535) (by decide) 133 (by omega)
  unfold halfStep quotientUnits
  omega

/-- R171: `t3` is within [-45, 130]. -/
theorem celsiusUnits_mem : -45 * 2 ^ 149 ≤ celsiusUnits v ∧ celsiusUnits v ≤ 130 * 2 ^ 149 := by
  obtain ⟨hle, hge⟩ := quotientUnits_mem v
  refine ⟨le_roundInt (by decide) ?_ (by push_cast; omega), roundInt_le (by decide) ?_ (by push_cast; omega)⟩
  · exact fits_mul_pow (by decide : 45 ≤ 2 ^ 24) 149
  · exact fits_mul_pow (by decide : 130 ≤ 2 ^ 24) 149

/-- R171: the error of the subtraction, a half step at most. -/
theorem celsiusUnits_error : quotientUnits v - 45 * 2 ^ 149 - celsiusUnits v ≤ halfStep
    ∧ celsiusUnits v - (quotientUnits v - 45 * 2 ^ 149) ≤ halfStep := by
  obtain ⟨hle, hge⟩ := quotientUnits_mem v
  obtain ⟨h1, h2⟩ := roundInt_error (num := quotientUnits v - 45 * 2 ^ 149) (den := 1) (by decide) 133 (by omega)
  unfold halfStep celsiusUnits
  omega

/-- R171: the product is exact. -/
theorem fl32_product : fl32 (v.toNat * 175 * 2 ^ 149) 1 = .finite (v.toNat * 175 * 2 ^ 149) := by
  have hv := rawCode_le v
  have hfits : Fits (v.toNat * 175 * 2 ^ 149 : Int).natAbs := by
    have := fits_product v
    rwa [show (v.toNat * 175 * 2 ^ 149 : Int).natAbs = v.toNat * 175 * 2 ^ 149 by omega]
  have h := (fl32_of_bound Nat.one_pos hfits (lt_overflow (by omega)) (mul_one _).ge).1
  rwa [roundInt_one_of_fits hfits] at h

/-- R171: the quotient is finite. -/
theorem fl32_quotient : fl32 (v.toNat * 175 * 2 ^ 149) 65535 = .finite (quotientUnits v) := by
  have hv := rawCode_le v
  exact (fl32_of_bound (by decide) (fits_mul_pow (by decide : 175 ≤ 2 ^ 24) 149) (lt_overflow (by omega)) (by omega)).1

/-- R171: the difference is finite. -/
theorem fl32_celsius : fl32 (quotientUnits v - 45 * 2 ^ 149) 1 = .finite (celsiusUnits v) := by
  obtain ⟨hle, hge⟩ := quotientUnits_mem v
  exact (fl32_of_bound (by decide) (fits_mul_pow (by decide : 130 ≤ 2 ^ 24) 149) (lt_overflow (by omega)) (by omega)).1

/-- R171: the conversion of a raw code, in units. -/
theorem rawToCelsius_eq : rawToCelsius v = .finite (celsiusUnits v) := by
  have hproduct : ((v.toNat * Config.celsiusSpan * unitsPerOne : Nat) : Int) = v.toNat * 175 * 2 ^ 149 := by
    rw [Config.celsiusSpan, unitsPerOne, Nat.cast_mul, Nat.cast_mul]
    norm_num
  have hoffset (k : Int) : k + -(Config.celsiusOffset : Int) * unitsPerOne = k - 45 * 2 ^ 149 := by
    rw [Config.celsiusOffset, unitsPerOne, neg_mul, ← sub_eq_add_neg]
    norm_num
  have hscale : Config.rawFullScale = 65535 := rfl
  rw [rawToCelsius, hproduct, fl32_product, divNat_finite, hscale, fl32_quotient, addInt_finite, hoffset, fl32_celsius]

/-- R171: 45 is no multiple of 175/65535, by more than the rounding errors, so `t3` is neither zero nor subnormal. -/
theorem le_natAbs_celsiusUnits : 2 ^ 23 ≤ (celsiusUnits v).natAbs := by
  obtain ⟨q1, q2⟩ := quotientUnits_error v
  obtain ⟨c1, c2⟩ := celsiusUnits_error v
  unfold halfStep at *
  by_cases h : (v.toNat : Int) ≤ 16851
  · omega
  · omega

/-- R171: the quotients of two codes are farther apart than their rounding errors. -/
theorem celsiusUnits_strictMono {v v' : Word16} (h : v < v') : celsiusUnits v < celsiusUnits v' := by
  have hlt : (v.toNat : Int) + 1 ≤ v'.toNat := by exact_mod_cast h
  obtain ⟨q1, q2⟩ := quotientUnits_error v
  obtain ⟨c1, c2⟩ := celsiusUnits_error v
  obtain ⟨q1', q2'⟩ := quotientUnits_error v'
  obtain ⟨c1', c2'⟩ := celsiusUnits_error v'
  unfold halfStep at *
  omega

end Sys2Proof.Machine

open Sys2Proof Sys2Proof.Machine

/-- Settles O53: the product has 24 significant bits, and each later result lies within one that has. -/
theorem cvtR2cRoundsOncePerOperation : Obligations.CvtR2cRoundsOncePerOperation := fun s v =>
  ⟨quotientUnits v, celsiusUnits v, fl32_product v, fl32_quotient v, fl32_celsius v, by
    change execCvtR2c v s = _
    rw [execCvtR2c, rawToCelsius_eq]
    rfl⟩

/-- Settles O55: two products are 175 apart and each rounding is half a step off at most, so the order stays; no product is near 45. -/
theorem celsiusIsStrictlyIncreasing : Obligations.CelsiusIsStrictlyIncreasing := by
  refine ⟨fun v => ⟨celsiusUnits v, rawToCelsius_eq v, (celsiusUnits_mem v).1, (celsiusUnits_mem v).2, le_natAbs_celsiusUnits v⟩,
    fun v v' k k' h hk hk' => ?_, by decide, by decide, by decide⟩
  cases (rawToCelsius_eq v).symm.trans hk
  cases (rawToCelsius_eq v').symm.trans hk'
  exact celsiusUnits_strictMono h

end

section
/-! PROOFS. CVT.C2R (R172): each operation's result in units, the truncation, monotony on the finite patterns, and the round trip (R173). -/

namespace Sys2Proof.Machine

/-! ## The three operations in units -/

/-- The number of units of `s1` (R172). -/
def sumUnits (k : Int) : Int := roundInt (k + 45 * 2 ^ 149) 1

/-- The number of units of `s2` (R172), with no bound on the exponent. -/
def productUnits (k : Int) : Int := roundInt (sumUnits k * 65535) 1

/-- The number of units of `s3` (R172), with no bound on the exponent. -/
def scaledUnits (k : Int) : Int := roundInt (productUnits k) 175

theorem sumUnits_mono : Monotone sumUnits := fun _ _ h => roundInt_mono Nat.one_pos (by omega)

/-- R172: each of the three operations is monotone. -/
theorem scaledUnits_mono : Monotone scaledUnits := fun _ _ h =>
  roundInt_mono (by decide) (roundInt_mono Nat.one_pos (Int.mul_le_mul_of_nonneg_right (sumUnits_mono h) (by decide)))

variable {k : Int} {cb : BitVec 32}

/-- R172: the sum with 45 is finite, 45 being far below the spacing at the greatest finite value. -/
theorem fl32_sum (h : f32 cb = some (.finite k)) : fl32 (k + 45 * 2 ^ 149) 1 = .finite (sumUnits k) := by
  obtain ⟨hk, hp⟩ := fits_of_f32 h
  have hle : k.natAbs ≤ (2 ^ 24 - 1) * 2 ^ 253 := hk ▸ (fits_patternMagnitude _).le_of_lt (patternMagnitude_lt hp)
  exact fl32_of_lt ((roundMagnitude_lt_iff _ Nat.one_pos 253).mpr (by omega))

/-- R172: a finite product divided by 175 is finite. -/
theorem fl32_div {k2 : Int} (h : fl32 (sumUnits k * 65535) 1 = .finite k2) :
    k2 = productUnits k ∧ fl32 k2 175 = .finite (scaledUnits k) := by
  obtain ⟨rfl, hlt⟩ := fl32_eq_finite h
  exact ⟨rfl, (fl32_of_bound (by decide) (fits_roundInt _ Nat.one_pos) hlt (Nat.le_mul_of_pos_right _ (by decide))).1⟩

/-- R172: the scaled value of a finite pattern. -/
theorem celsiusToRaw_of_finite (h : f32 cb = some (.finite k)) :
    celsiusToRaw cb = truncToRaw ((fl32 (sumUnits k * 65535) 1).divNat 175) := by
  have hoffset : k + (Config.celsiusOffset : Int) * unitsPerOne = k + 45 * 2 ^ 149 := by
    rw [Config.celsiusOffset, unitsPerOne]
    norm_num
  have hscale : Config.rawFullScale = 65535 := rfl
  have hspan : Config.celsiusSpan = 175 := rfl
  rw [celsiusToRaw, h]
  simp only
  rw [celsiusScaled, addInt_finite, hoffset, fl32_sum h, mulNat_finite, hscale, hspan]
  rfl

/-- R172: the truncation, in units. -/
theorem truncToRaw_finite (k : Int) : truncToRaw (.finite k) =
    if k ≤ -2 ^ 149 ∨ 65536 * 2 ^ 149 ≤ k then none else some (BitVec.ofInt 16 (k.tdiv (2 ^ 149))) := by
  have hone : (unitsPerOne : Int) = 2 ^ 149 := by
    rw [unitsPerOne]
    norm_num
  rw [truncToRaw, hone]

/-- R172: outside (-1, 65536) there is no raw code. -/
theorem truncToRaw_of_outside (h : k ≤ -2 ^ 149 ∨ 65536 * 2 ^ 149 ≤ k) : truncToRaw (.finite k) = none := by
  rw [truncToRaw_finite, if_pos h]

/-- R172: inside, the raw code is the value truncated toward zero. -/
theorem truncToRaw_of_inside (h1 : -2 ^ 149 < k) (h2 : k < 65536 * 2 ^ 149) :
    ∃ raw, truncToRaw (.finite k) = some raw ∧ (k < 0 → raw = 0#16)
      ∧ (0 ≤ k → raw.toNat * 2 ^ 149 ≤ k ∧ k < (raw.toNat + 1) * 2 ^ 149) := by
  rw [truncToRaw_finite, if_neg (by omega)]
  refine ⟨BitVec.ofInt 16 (k.tdiv (2 ^ 149)), rfl, fun hneg => ?_, fun hpos => ?_⟩
  · have hzero : k.tdiv (2 ^ 149) = 0 := by
      rw [← neg_neg k, Int.neg_tdiv, Int.tdiv_eq_zero_of_lt (by omega) (by omega), neg_zero]
    rw [hzero]
    rfl
  · rw [Int.tdiv_eq_ediv_of_nonneg hpos, BitVec.toNat_ofInt]
    omega

/-- An infinity comes from a rounded magnitude of 2^128 or more. -/
theorem fl32_eq_inf {num : Int} {den : Nat} {negative : Bool} (h : fl32 num den = .inf negative) :
    2 ^ 24 * 2 ^ 253 ≤ (roundInt num den).natAbs := by
  rw [roundInt_natAbs]
  by_contra hlt
  cases (fl32_of_lt (not_le.mp hlt)).symm.trans h

/-- R172: where the product overflows, the unbounded quotient is outside (-1, 65536) too. -/
theorem scaledUnits_of_overflow (h : 2 ^ 24 * 2 ^ 253 ≤ (productUnits k).natAbs) :
    scaledUnits k ≤ -2 ^ 149 ∨ 65536 * 2 ^ 149 ≤ scaledUnits k := by
  by_cases hneg : productUnits k < 0
  · exact .inl (roundInt_le (by decide) (fits_mul_pow (by decide : 1 ≤ 2 ^ 24) 149) (by omega))
  · exact .inr (le_roundInt (by decide) (fits_mul_pow (by decide : 65536 ≤ 2 ^ 24) 149) (by omega))

/-- R172: the raw code of a finite pattern. -/
theorem celsiusToRaw_eq (h : f32 cb = some (.finite k)) : celsiusToRaw cb = truncToRaw (.finite (scaledUnits k)) := by
  rw [celsiusToRaw_of_finite h]
  cases hprod : fl32 (sumUnits k * 65535) 1 with
  | finite k2 => rw [divNat_finite, (fl32_div hprod).2]
  | inf negative =>
    rw [truncToRaw_of_outside (scaledUnits_of_overflow (fl32_eq_inf hprod))]
    rfl

/-! ## The legal patterns -/

/-- The scaled values at the end points of R172 are inside, those of the next patterns outside. -/
theorem scaledUnits_ends : scaledUnits (patternMagnitude 0x430200AE) < 65536 * 2 ^ 149
    ∧ 65536 * 2 ^ 149 ≤ scaledUnits (patternMagnitude 0x430200AF) ∧ -2 ^ 149 < scaledUnits (-patternMagnitude 0x423402BC)
    ∧ scaledUnits (-patternMagnitude 0x423402BD) ≤ -2 ^ 149 := by decide

/-- R172: from +0.0 to the greatest legal pattern and from -0.0 to the least, the scaled value is inside. -/
theorem scaledUnits_inside (h1 : -(patternMagnitude 0x423402BC : Int) ≤ k) (h2 : k ≤ patternMagnitude 0x430200AE) :
    -2 ^ 149 < scaledUnits k ∧ scaledUnits k < 65536 * 2 ^ 149 := by
  obtain ⟨hmax, -, hmin, -⟩ := scaledUnits_ends
  exact ⟨hmin.trans_le (scaledUnits_mono h1), (scaledUnits_mono h2).trans_lt hmax⟩

/-- R172: beyond them it is outside. -/
theorem scaledUnits_outside (h : k ≤ -(patternMagnitude 0x423402BD : Int) ∨ patternMagnitude 0x430200AF ≤ k) :
    scaledUnits k ≤ -2 ^ 149 ∨ 65536 * 2 ^ 149 ≤ scaledUnits k := by
  obtain ⟨-, hmax, -, hmin⟩ := scaledUnits_ends
  exact h.imp (fun h => (scaledUnits_mono h).trans hmin) fun h => hmax.trans (scaledUnits_mono h)

/-- R172: the legal patterns. -/
def LegalPattern (cb : BitVec 32) : Prop := cb.toNat ≤ 0x430200AE ∨ (0x80000000 ≤ cb.toNat ∧ cb.toNat ≤ 0xC23402BC)

/-- The legal patterns by their sign. -/
theorem legalPattern_iff (cb : BitVec 32) :
    LegalPattern cb ↔ absPattern cb ≤ if cb.getLsbD 31 then 0x423402BC else 0x430200AE := by
  have hcb := cb.isLt
  rw [LegalPattern, getLsbD_31, absPattern]
  simp only [decide_eq_true_eq]
  split_ifs <;> omega

/-- R172: the legal patterns have a raw code: their values lie between those of the end points. -/
theorem celsiusToRaw_of_legal (h : LegalPattern cb) : ∃ raw, celsiusToRaw cb = some raw := by
  rw [legalPattern_iff] at h
  have hfin : absPattern cb < infPattern := by
    unfold infPattern
    split_ifs at h <;> omega
  have inside : -2 ^ 149 < scaledUnits (signed (cb.getLsbD 31) (patternMagnitude (absPattern cb)))
      ∧ scaledUnits (signed (cb.getLsbD 31) (patternMagnitude (absPattern cb))) < 65536 * 2 ^ 149 := by
    split_ifs at h with hsign
    · have := patternMagnitude_strictMono.monotone h
      rw [hsign, signed_true]
      exact scaledUnits_inside (by omega) (by omega)
    · have := patternMagnitude_strictMono.monotone h
      rw [Bool.eq_false_of_not_eq_true hsign, signed_false]
      exact scaledUnits_inside (by omega) (by omega)
  obtain ⟨raw, hraw, -⟩ := truncToRaw_of_inside inside.1 inside.2
  exact ⟨raw, (celsiusToRaw_eq (f32_of_lt hfin)).trans hraw⟩

/-- R172: the others have none: their values lie beyond those of the next patterns, or they have no finite value. -/
theorem celsiusToRaw_of_not_legal (h : ¬ LegalPattern cb) : celsiusToRaw cb = none := by
  rw [legalPattern_iff] at h
  by_cases hfin : absPattern cb < infPattern
  · rw [celsiusToRaw_eq (f32_of_lt hfin)]
    refine truncToRaw_of_outside (scaledUnits_outside ?_)
    split_ifs at h with hsign
    · have next : patternMagnitude 0x423402BD ≤ patternMagnitude (absPattern cb) := patternMagnitude_strictMono.monotone (not_le.mp h)
      rw [hsign, signed_true]
      exact .inl (by omega)
    · have next : patternMagnitude 0x430200AF ≤ patternMagnitude (absPattern cb) := patternMagnitude_strictMono.monotone (not_le.mp h)
      rw [Bool.eq_false_of_not_eq_true hsign, signed_false]
      exact .inr (by omega)
  · rw [celsiusToRaw, f32_of_le (not_lt.mp hfin)]
    split_ifs <;> rfl

/-! ## Zeros and subnormals -/

/-- R172: adding 45 rounds every number below 2^23 units away. -/
theorem scaledUnits_of_small (h : k.natAbs < 2 ^ 23) : scaledUnits k = scaledUnits 0 := by
  have least : scaledUnits (-2 ^ 23) = scaledUnits 0 := by decide
  have greatest : scaledUnits (2 ^ 23) = scaledUnits 0 := by decide
  exact le_antisymm ((scaledUnits_mono (by omega)).trans_eq greatest) (least.symm.trans_le (scaledUnits_mono (by omega)))

/-- R172: both zeros and every subnormal have one raw code. -/
theorem celsiusToRaw_of_subnormal (h : absPattern cb < 2 ^ 23) : celsiusToRaw cb = some 16851#16 := by
  rw [celsiusToRaw_eq (f32_of_lt (h.trans (by decide))), scaledUnits_of_small]
  · decide
  · rwa [natAbs_signed, patternMagnitude, if_pos h]

/-! ## The round trip -/

/-- R173: the scaled value of a raw code's Celsius value is less than one off the code. -/
theorem scaledUnits_celsiusUnits (v : Word16) : (v.toNat - 1) * 2 ^ 149 < scaledUnits (celsiusUnits v)
    ∧ scaledUnits (celsiusUnits v) < (v.toNat + 1) * 2 ^ 149 := by
  have hv := rawCode_le v
  obtain ⟨q1, q2⟩ := quotientUnits_error v
  obtain ⟨c1, c2⟩ := celsiusUnits_error v
  have hsum : sumUnits (celsiusUnits v) - quotientUnits v ≤ 2 * halfStep
      ∧ quotientUnits v - sumUnits (celsiusUnits v) ≤ 2 * halfStep := by
    obtain ⟨hle, hge⟩ := celsiusUnits_mem v
    obtain ⟨h1, h2⟩ := roundInt_error (num := celsiusUnits v + 45 * 2 ^ 149) (den := 1) (by decide) 133 (by omega)
    unfold halfStep sumUnits at *
    omega
  have hproduct : productUnits (celsiusUnits v) - v.toNat * 175 * 2 ^ 149 < 2 * 2 ^ 149
      ∧ v.toNat * 175 * 2 ^ 149 - productUnits (celsiusUnits v) < 2 * 2 ^ 149 := by
    obtain ⟨h1, h2⟩ := roundInt_error (num := sumUnits (celsiusUnits v) * 65535) (den := 1) (by decide) 149
      (by unfold halfStep at *; omega)
    unfold halfStep productUnits at *
    omega
  obtain ⟨h1, h2⟩ := roundInt_error (num := productUnits (celsiusUnits v)) (den := 175) (by decide) 142 (by omega)
  unfold scaledUnits
  omega

/-- R173: the pattern CVT.R2C answers encodes its Celsius value. -/
theorem f32_rawToCelsius (v : Word16) : f32 (bits32 (rawToCelsius v)) = some (.finite (celsiusUnits v)) := by
  obtain ⟨hle, hge⟩ := celsiusUnits_mem v
  rw [rawToCelsius_eq]
  exact f32_bits32 (fits_roundInt _ Nat.one_pos) (lt_overflow (by omega))

/-- R173: the raw code of a raw code's Celsius value is the code or one less. -/
theorem celsiusToRaw_rawToCelsius (v : Word16) :
    ∃ raw, celsiusToRaw (bits32 (rawToCelsius v)) = some raw ∧ (raw = v ∨ raw.toNat + 1 = v.toNat) := by
  have hv := rawCode_le v
  obtain ⟨h1, h2⟩ := scaledUnits_celsiusUnits v
  obtain ⟨raw, hraw, hneg, hpos⟩ := truncToRaw_of_inside (k := scaledUnits (celsiusUnits v)) (by omega) (by omega)
  refine ⟨raw, (celsiusToRaw_eq (f32_rawToCelsius v)).trans hraw, ?_⟩
  by_cases h : scaledUnits (celsiusUnits v) < 0
  · left
    rw [hneg h]
    apply BitVec.eq_of_toNat_eq
    rw [BitVec.toNat_zero]
    omega
  · obtain ⟨h3, h4⟩ := hpos (not_lt.mp h)
    by_cases heq : raw.toNat = v.toNat
    · exact .inl (BitVec.eq_of_toNat_eq heq)
    · exact .inr (by omega)

end Sys2Proof.Machine

open Sys2Proof Sys2Proof.Machine

/-- Settles O56: a NaN and an infinity give no raw code, and a finite pattern is scaled with one rounding per operation. -/
theorem cvtC2rTruncatesOrRaisesRange : Obligations.CvtC2rTruncatesOrRaisesRange := by
  intro s cb
  refine ⟨fun h => exec_cvtC2r_of_none (by rw [celsiusToRaw, h]) s, fun neg h => exec_cvtC2r_of_none (by rw [celsiusToRaw, h]) s,
    fun k h => ⟨sumUnits k, fl32_sum h, fun neg hinf => ?_, fun k2 hfin => ⟨scaledUnits k, (fl32_div hfin).2, fun hout => ?_,
      fun h1 h2 => ?_⟩⟩⟩
  · refine exec_cvtC2r_of_none ?_ s
    rw [celsiusToRaw_of_finite h, hinf]
    rfl
  · exact exec_cvtC2r_of_none ((celsiusToRaw_eq h).trans (truncToRaw_of_outside hout)) s
  · obtain ⟨raw, hraw, hneg, hpos⟩ := truncToRaw_of_inside h1 h2
    exact ⟨raw, exec_cvtC2r_of_some ((celsiusToRaw_eq h).trans hraw) s, hneg, hpos⟩

/-- Settles O58: the legal patterns have a raw code, the others have none. -/
theorem legalCelsiusPatternsFormOneInterval : Obligations.LegalCelsiusPatternsFormOneInterval := fun s _ =>
  ⟨fun h => (celsiusToRaw_of_legal h).imp fun _ hraw => exec_cvtC2r_of_some hraw s,
    fun h => exec_cvtC2r_of_none (celsiusToRaw_of_not_legal h) s⟩

/-- Settles O59: an exponent field of 0 is a pattern below 2^23, whatever its sign. -/
theorem zerosAndSubnormalsGiveOneCode : Obligations.ZerosAndSubnormalsGiveOneCode := by
  intro s cb h
  have hexp := exponent_eq cb
  rw [h, BitVec.toNat_zero] at hexp
  exact exec_cvtC2r_of_some (celsiusToRaw_of_subnormal (by omega)) s

/-- Settles O60: `Y[31:0]` is the pattern of the Celsius value, whose raw code is the code or one less. -/
theorem roundTripReturnsTheCodeOrOneLess : Obligations.RoundTripReturnsTheCodeOrOneLess := by
  intro s v
  obtain ⟨raw, hraw, hv⟩ := celsiusToRaw_rawToCelsius v
  refine ⟨zext40 (bits32 (rawToCelsius v)), raw, rfl, exec_cvtC2r_of_some ?_ _, hv⟩
  rwa [zext40, BitVec.extractLsb'_setWidth_of_le (by decide), BitVec.extractLsb'_eq_self]

end
